-- ==== Sys2Proof/Word.lean ====
section
/-! DEFINITION. Word.lean: the words of the Tolsmar 620, each under the name the manual gives it.
A fixed run of bytes (a secret, a digest, a key) is one bit vector, its first byte least significant. LBAs and counts
are computed with as natural numbers, because the manual's LBA arithmetic is exact (00_scope.md, Conventions). -/

namespace Sys2Proof

/-- One byte of a capsule, an envelope or a completion. -/
abbrev Byte := BitVec 8

/-- A range key, the device key or a key-wrapping key: 32 bytes (R79, R106). -/
abbrev Key := BitVec 256

/-- The 32 bytes a user or program presents to prove a credential (R98). -/
abbrev Secret := BitVec 256

/-- A verifier or a platform digest: 32 bytes (R80, R84). -/
abbrev Digest := BitVec 256

/-- A credential's salt: 16 bytes (R80). -/
abbrev Salt := BitVec 128

/-- The check of a wrap: 16 bytes (R81). -/
abbrev Check := BitVec 128

/-- The laptop's identity token: 64 bytes (R113). -/
abbrev Token := BitVec 512

/-- A sector tweak: an unsigned 128-bit integer (R31). -/
abbrev Tweak := BitVec 128

/-- One of the 32 blocks of 16 bytes of a sector (R31). -/
abbrev Block := BitVec 128

/-- A sector of 512 bytes as its 32 blocks: block `j` is bytes `16 j .. 16 j + 15` (R31). -/
abbrev Sector := Vector Block 32

/-- A range's key generation: 0..65535, following 65535 with 0 (R2). -/
abbrev Generation := BitVec 16

/-- A range index 0..15; also the number of its key slot and of its pair of locks (R1, R61, R62). -/
abbrev RangeIndex := Fin 16

/-- A credential slot 0..7; slot 0 holds the owner (R80). -/
abbrev SlotIndex := Fin 8

/-- An upstream tag 0..31, the place of an entry in the Command Table (R46). -/
abbrev Tag := Fin 32

/-- The sector of 512 zero bytes (R39). -/
def zeroSector : Sector := Vector.replicate 32 0

end Sys2Proof
end

