-- ==== Sys2Proof/Config.lean ====
section
/-! DEFINITION. Config.lean: what the manual names by what it takes and yields only, and the values it leaves open.
Every constant here is uninterpreted: no proof can see a value of it, so a claim holds whatever it is. -/

namespace Sys2Proof

/-- What a tweak and a block number add to a block in the cipher that shows `BlockCipher` to be inhabited. -/
def cipherShift (l : Tweak) (j : Fin 32) : Block := l * 32 + BitVec.ofNat 128 j.val

/-- Different media LBAs of 48 bits, or different block numbers, give different shifts. -/
theorem cipherShift_inj (l m : Tweak) (i j : Fin 32) (hl : l.toNat < 2 ^ 48) (hm : m.toNat < 2 ^ 48)
    (h : cipherShift l i = cipherShift m j) : l = m ∧ i = j := by
  have h := congrArg BitVec.toNat h
  unfold cipherShift at h
  simp only [BitVec.toNat_add, BitVec.toNat_mul, BitVec.toNat_ofNat, show (32 : Tweak).toNat = 32 from rfl] at h
  have hi := i.isLt
  have hj := j.isLt
  have : l.toNat = m.toNat ∧ i.val = j.val := by omega
  exact ⟨BitVec.eq_of_toNat_eq this.1, Fin.ext this.2⟩

/-- A block cipher as R31 describes it: under a key, a tweak and a block number it maps a 16-byte block to a block of
ciphertext, with an inverse (`perm`), and the same plaintext at two media LBAs, or at two block numbers, gives different
ciphertext (`spread`; a media LBA has 48 bits, section 3.10). The default values show only that such a cipher exists. -/
structure BlockCipher where
  perm : Key → Tweak → Fin 32 → Equiv.Perm Block := fun _ l j => Equiv.addRight (cipherShift l j)
  spread : ∀ (k : Key) (l m : Tweak) (i j : Fin 32) (b : Block), l.toNat < 2 ^ 48 → m.toNat < 2 ^ 48 →
    perm k l i b = perm k m j b → l = m ∧ i = j := by
      intro _ l m i j b hl hm h
      exact cipherShift_inj l m i j hl hm (by simpa using h)
  deriving Inhabited

/-- The block function of the Cipher Unit (R31). Its construction is outside the manual (00_scope.md, Scope). -/
opaque Config.blockCipher : BlockCipher

/-- How a key-wrapping key enciphers a range key (R81, R106). -/
opaque Config.keyCipher : Key → Equiv.Perm Key

/-- The 16-byte check computed over a range key under a key-wrapping key (R106). -/
opaque Config.wrapCheck : Key → Key → Check

/-- The key-wrapping key derived from a secret and a salt (R106). -/
opaque Config.wrappingKey : Secret → Salt → Key

/-- The digest of a salt and a secret (R80, R101). -/
opaque Config.secretDigest : Salt → Secret → Digest

/-- The digest of a 64-byte token (R113). -/
opaque Config.tokenDigest : Token → Digest

/-- The n-th key the part generates (R106: the manual gives no way to compute it). -/
opaque Config.freshKey : Nat → Key

/-- The n-th salt the part generates (R106). -/
opaque Config.freshSalt : Nat → Salt

/-- Which of two transitions that end at one event is taken first, where the manual says that either may be
(R72, R75, R139). -/
opaque Config.powerEnterFirst : Nat → Bool

/-- Whether the data lane is taken from before the capsule lane, where both hold something: the manual orders each lane and
not the two (R42, R43). -/
opaque Config.dataLaneFirst : Nat → Bool

/-- Whether the response of an UNLOCK with handover AT_LINK_RESET follows its load as a second event, so that a link reset
may come between the two, where the manual lets the link reset and the UNLOCK's completion come together (R14). -/
opaque Config.answerFollows : Nat → Bool

/-- Whether a power loss within a wipe's first PURGE write may leave the wipe record torn, as R90 has it of every write, or leaves
it old, as R181 has it of this one. -/
opaque Config.firstPurgeTears : Bool

/-- The request code echoed for an envelope too short to hold one (section 3.10, R59). -/
opaque Config.shortEnvelopeCode : List Byte → BitVec 16

end Sys2Proof
end

