-- ==== Sys2Proof/Syntax.lean ====
section
/-! DEFINITION. Syntax.lean: the commands of the block, one constructor for each row of spec/opcode_table.json, with the
operands the row's command carries. A coded field is the raw byte that carries it, so that codes outside those the
manual lists can be sent too (R45, R60). -/

namespace Sys2Proof

/-- The authorization block of a control request: byte 4 of the envelope (a slot 0..7, or 255 for no block) and the
secret of bytes 8..39 (section 3.10, R98). -/
structure AuthBlock where
  slot : Byte
  secret : Secret
  deriving DecidableEq, Repr

/-- One entry of SET LOCKS: a range index and the new values of its two locks, 0 clear and 1 set (R60, R73). -/
structure LockEntry where
  range : Byte
  readLock : Byte
  writeLock : Byte
  deriving DecidableEq, Repr

/-- The level of the enclosure line (R144). -/
inductive Level where
  | closed
  | opened
  deriving DecidableEq, Repr

/-- Where a power loss falls in a record write in progress: the record keeps its old content, holds the new content, or
is torn; the part does not choose it (R90). -/
inductive WriteCut where
  | oldContent
  | newContent
  | torn
  deriving DecidableEq, Repr

/-- The commands: operations on the two ports, requests of the control channel, and events of the part's own units and
pins (spec/opcode_table.json, one constructor a row). -/
inductive Instr where
  -- tagged capsules on the capsule lane (R42, R45)
  | read (tag : Byte) (lba : BitVec 48) (count : BitVec 16)
  | write (tag : Byte) (lba : BitVec 48) (count : BitVec 16)
  | deallocate (tag : Byte) (lba : BitVec 48) (count : BitVec 16)
  | flush (tag : Byte)
  | identify (tag : Byte)
  /-- A CONTROL capsule with the bytes of its envelope as they stand on the lane (R58). -/
  | control (tag : Byte) (envelope : List Byte)
  | undefinedKindCapsule (kind : Byte) (tag : Byte)
  -- sectors and completions on the two ports
  | writeDataSector (tag : Byte) (offset : Nat) (data : Sector)
  | readDataSector (subTag : Byte) (offset : Nat) (data : Sector)
  | readSectorPassedUpstream (subTag : Byte) (offset : Nat)
  | zeroWriteSectorSent (subTag : Byte) (offset : Nat)
  /-- A downstream completion: its sub-tag, its status code and, for an IDENTIFY, its identity block (R50). -/
  | downstreamCompletion (subTag : Byte) (status : Byte) (identity : Sector)
  -- notices on the capsule lane (R55)
  | linkReset
  | powerEnter
  | powerExit
  -- control requests, each in a CONTROL capsule under `tag` with the block `auth` (R60, section 7.9)
  | queryState (tag : Byte) (auth : AuthBlock)
  | queryRanges (tag : Byte) (auth : AuthBlock)
  | queryCredentials (tag : Byte) (auth : AuthBlock)
  | setAttention (tag : Byte) (auth : AuthBlock)
  | selfTest (tag : Byte) (auth : AuthBlock)
  | takeOwnership (tag : Byte) (auth : AuthBlock) (newSecret : Secret)
  | presentPlatform (tag : Byte) (auth : AuthBlock) (token : Token)
  | unlock (tag : Byte) (auth : AuthBlock) (handover : Byte)
  | setCredential (tag : Byte) (auth : AuthBlock) (target kind state : Byte) (secret : Secret) (reveal : List Byte)
  | changeSecret (tag : Byte) (auth : AuthBlock) (newSecret : Secret)
  | lock (tag : Byte) (auth : AuthBlock) (ranges : List Byte)
  | setLocks (tag : Byte) (auth : AuthBlock) (entries : List LockEntry)
  | endSession (tag : Byte) (auth : AuthBlock)
  | defineRange (tag : Byte) (auth : AuthBlock) (index flags lockOn : Byte) (start length : BitVec 48)
  | deleteRange (tag : Byte) (auth : AuthBlock) (index : Byte)
  | imageWriteEnable (tag : Byte) (auth : AuthBlock)
  | setPolicy (tag : Byte) (auth : AuthBlock) (freeTries attemptLimit absenceLimit enclosure depth : Byte)
  | bindPlatform (tag : Byte) (auth : AuthBlock) (policy : Byte) (token : Token)
  | finalize (tag : Byte) (auth : AuthBlock)
  | eraseRange (tag : Byte) (auth : AuthBlock) (index : Byte)
  | wipe (tag : Byte) (auth : AuthBlock)
  -- events of the part's own units and pins
  | storeWriteCompletion
  | backoffExpiry
  | enclosureOpening
  | enclosureClosing
  /-- Power-good is asserted; the Enclosure Monitor's first sample finds the line at `level` (R144, R166). -/
  | powerGood (level : Level)
  /-- The known-answer test ends. Each operand is what a defective unit gave in place of the sector it should have enciphered
  or deciphered; `none` is a unit that ciphers as R31 says (R40). -/
  | selfTestEnd (enciphered deciphered : Option Sector)
  | powerLoss (cut : WriteCut)
  | writeSectorSentDownstream (subTag : Byte)
  deriving DecidableEq, Repr

/-- The control requests, as an envelope that passes its test names them, with their fields (R59, R60, section 7.9). -/
inductive Request where
  | queryState
  | queryRanges
  | queryCredentials
  | setAttention
  | selfTest
  | takeOwnership (newSecret : Secret)
  | presentPlatform (token : Token)
  | unlock (handover : Byte)
  | setCredential (target kind state : Byte) (secret : Secret) (reveal : List Byte)
  | changeSecret (newSecret : Secret)
  | lock (ranges : List Byte)
  | setLocks (entries : List LockEntry)
  | endSession
  | defineRange (index flags lockOn : Byte) (start length : BitVec 48)
  | deleteRange (index : Byte)
  | imageWriteEnable
  | setPolicy (freeTries attemptLimit absenceLimit enclosure depth : Byte)
  | bindPlatform (policy : Byte) (token : Token)
  | finalize
  | eraseRange (index : Byte)
  | wipe
  deriving DecidableEq, Repr

/-- The six kinds of tagged capsule (section 3.2). -/
inductive Kind where
  | read
  | write
  | deallocate
  | flush
  | identify
  | control
  deriving DecidableEq, Repr

/-- The three notices (section 3.2). -/
inductive Notice where
  | linkReset
  | powerEnter
  | powerExit
  deriving DecidableEq, Repr

/-- The status codes of completions and acknowledgements (section 3.9). -/
inductive Status where
  | good
  | locked
  | outOfRange
  | invalid
  | mediaError
  | aborted
  | wiped
  | dormant
  | fault
  | authFailed
  | backoff
  | platform
  | notPermitted
  | wrongState
  | corrupt
  | busy
  deriving DecidableEq, Repr

/-- A capsule as the capsule lane carries it: its header's fields and the bytes of its envelope (section 3.10). -/
structure Capsule where
  kind : Byte
  tag : Byte
  count : BitVec 16
  lba : BitVec 48
  envelope : List Byte
  deriving DecidableEq, Repr

/-- A write data sector as the data lane carries it: a tag, a command offset and 512 bytes (R43). -/
structure DataSector where
  tag : Byte
  offset : Nat
  data : Sector
  deriving DecidableEq, Repr

end Sys2Proof
end

