-- ==== Sys2Proof/WellFormed.lean ====
section
/-! DEFINITION. WellFormed.lean: which terms of `Instr` stand for a command that can be sent. -/

namespace Sys2Proof

/-- The kind bytes that name a capsule kind or a notice (section 3.10). -/
def definedKinds : List Byte := [1, 2, 3, 4, 5, 6, 16, 17, 18]

/-- The header's envelope length is 32 bits (section 3.10). -/
def WellFormed.envelopeFits (envelope : List Byte) : Bool := decide (envelope.length < 2 ^ 32)

/-- A kind byte that names no kind (R45). -/
def WellFormed.undefinedKind (kind : Byte) : Bool := !definedKinds.contains kind

/-- A list of a request is a count byte and its entries, so it has at most 255 entries (R60). -/
def WellFormed.listFits {α : Type} (entries : List α) : Bool := decide (entries.length ≤ 255)

/-- The checks of each command; a row not named has operands that are well formed by their types alone. -/
def Instr.wellFormed : Instr → Bool
  | .control _ envelope => WellFormed.envelopeFits envelope
  | .undefinedKindCapsule kind _ => WellFormed.undefinedKind kind
  | .setCredential _ _ _ _ _ _ reveal => WellFormed.listFits reveal
  | .lock _ _ ranges => WellFormed.listFits ranges
  | .setLocks _ _ entries => WellFormed.listFits entries
  | .read .. | .write .. | .deallocate .. | .flush .. | .identify .. | .writeDataSector .. | .readDataSector ..
  | .readSectorPassedUpstream .. | .zeroWriteSectorSent .. | .downstreamCompletion .. | .linkReset | .powerEnter
  | .powerExit | .queryState .. | .queryRanges .. | .queryCredentials .. | .setAttention .. | .selfTest ..
  | .takeOwnership .. | .presentPlatform .. | .unlock .. | .changeSecret .. | .endSession .. | .defineRange ..
  | .deleteRange .. | .imageWriteEnable .. | .setPolicy .. | .bindPlatform .. | .finalize .. | .eraseRange ..
  | .wipe .. | .storeWriteCompletion | .backoffExpiry | .enclosureOpening | .enclosureClosing | .powerGood ..
  | .selfTestEnd .. | .powerLoss .. | .writeSectorSentDownstream .. => true

/-- The requests whose envelope can be written: each list fits its count byte (R60). -/
def Request.wellFormed : Request → Bool
  | .setCredential _ _ _ _ reveal => WellFormed.listFits reveal
  | .lock ranges => WellFormed.listFits ranges
  | .setLocks entries => WellFormed.listFits entries
  | .queryState | .queryRanges | .queryCredentials | .setAttention | .selfTest | .takeOwnership _ | .presentPlatform _
  | .unlock _ | .changeSecret _ | .endSession | .defineRange .. | .deleteRange _ | .imageWriteEnable | .setPolicy ..
  | .bindPlatform .. | .finalize | .eraseRange _ | .wipe => true

end Sys2Proof
end

