-- ==== Sys2Proof/Decode.lean ====
section
/-! DEFINITION. Decode.lean: the byte layouts of section 3.10 and of R60: numbers, codes, capsule headers and control
envelopes, each with the encoder that writes it, and `decodeTableWord`, the reading of a table word. -/

namespace Sys2Proof

/-! ## Numbers: unsigned, least significant byte first (section 3.10) -/

/-- The number a run of bytes holds. -/
def leNat : List Byte → Nat
  | [] => 0
  | b :: bs => b.toNat + 256 * leNat bs

/-- `n` bytes holding the number `v`. -/
def leBytes : Nat → Nat → List Byte
  | 0, _ => []
  | n + 1, v => BitVec.ofNat 8 v :: leBytes n (v / 256)

/-- The field of `width` bytes at `offset`. -/
def fieldAt (bytes : List Byte) (offset width : Nat) : Nat := leNat ((bytes.drop offset).take width)

/-- The byte at `offset`; bytes are read only where they stand. -/
def byteAt (bytes : List Byte) (offset : Nat) : Byte := bytes.getD offset 0

/-! ## Codes -/

/-- The kind byte of a tagged capsule (section 3.10). -/
def Kind.code : Kind → Byte
  | .read => 1
  | .write => 2
  | .deallocate => 3
  | .flush => 4
  | .identify => 5
  | .control => 6

/-- The kind byte of a notice (section 3.10). -/
def Notice.code : Notice → Byte
  | .linkReset => 16
  | .powerEnter => 17
  | .powerExit => 18

/-- What a kind byte names: a tagged kind, a notice, or neither (R45). -/
inductive KindByte where
  | tagged (kind : Kind)
  | notice (notice : Notice)
  | undefined
  deriving DecidableEq, Repr

/-- The reading of a kind byte (R45, section 3.10). -/
def kindOfByte (b : Byte) : KindByte :=
  if b = 1 then .tagged .read
  else if b = 2 then .tagged .write
  else if b = 3 then .tagged .deallocate
  else if b = 4 then .tagged .flush
  else if b = 5 then .tagged .identify
  else if b = 6 then .tagged .control
  else if b = 16 then .notice .linkReset
  else if b = 17 then .notice .powerEnter
  else if b = 18 then .notice .powerExit
  else .undefined

/-- The status codes (section 3.9). -/
def Status.code : Status → Byte
  | .good => 0
  | .locked => 1
  | .outOfRange => 2
  | .invalid => 3
  | .mediaError => 4
  | .aborted => 5
  | .wiped => 6
  | .dormant => 7
  | .fault => 8
  | .authFailed => 9
  | .backoff => 10
  | .platform => 11
  | .notPermitted => 12
  | .wrongState => 13
  | .corrupt => 14
  | .busy => 15

/-- The status of a downstream completion: GOOD, MEDIA_ERROR or ABORTED, and any other code is taken as MEDIA_ERROR
(R50). -/
def backEndStatus (code : Byte) : Status :=
  if code = Status.code .good then .good
  else if code = Status.code .aborted then .aborted
  else .mediaError

/-! ## Control requests -/

/-- The code of a request in bytes 0..1 of its envelope (section 7.9). -/
def Request.code : Request → Nat
  | .queryState => 1
  | .queryRanges => 2
  | .queryCredentials => 3
  | .setAttention => 4
  | .selfTest => 5
  | .takeOwnership _ => 16
  | .presentPlatform _ => 17
  | .unlock _ => 18
  | .setCredential .. => 19
  | .changeSecret _ => 20
  | .lock _ => 32
  | .setLocks _ => 33
  | .endSession => 34
  | .defineRange .. => 48
  | .deleteRange _ => 49
  | .imageWriteEnable => 50
  | .setPolicy .. => 64
  | .bindPlatform .. => 65
  | .finalize => 66
  | .eraseRange _ => 80
  | .wipe => 81

/-- One entry of SET LOCKS as its three bytes (R60). -/
def LockEntry.bytes (e : LockEntry) : List Byte := [e.range, e.readLock, e.writeLock]

/-- The entries of SET LOCKS held by a run of bytes, three bytes each (R60). -/
def lockEntries : Nat → List Byte → List LockEntry
  | 0, _ => []
  | n + 1, bytes => ⟨byteAt bytes 0, byteAt bytes 1, byteAt bytes 2⟩ :: lockEntries n (bytes.drop 3)

/-- The request fields, from byte 40 of the envelope (R60). -/
def Request.fields : Request → List Byte
  | .queryState | .queryRanges | .queryCredentials | .setAttention | .selfTest => []
  | .takeOwnership newSecret => leBytes 32 newSecret.toNat
  | .presentPlatform token => leBytes 64 token.toNat
  | .unlock handover => [handover]
  | .setCredential target kind state secret reveal =>
      [target, kind, state] ++ leBytes 32 secret.toNat ++ (BitVec.ofNat 8 reveal.length :: reveal)
  | .changeSecret newSecret => leBytes 32 newSecret.toNat
  | .lock ranges => BitVec.ofNat 8 ranges.length :: ranges
  | .setLocks entries => BitVec.ofNat 8 entries.length :: entries.flatMap LockEntry.bytes
  | .endSession => []
  | .defineRange index flags lockOn start length =>
      [index, flags, lockOn, 0, 0, 0, 0, 0] ++ leBytes 6 start.toNat ++ leBytes 6 length.toNat
  | .deleteRange index => [index]
  | .imageWriteEnable => []
  | .setPolicy freeTries attemptLimit absenceLimit enclosure depth =>
      [freeTries, attemptLimit, absenceLimit, enclosure, depth]
  | .bindPlatform policy token => policy :: leBytes 64 token.toNat
  | .finalize => []
  | .eraseRange index => [index]
  | .wipe => []

/-- The request that a code names and the fields `f` hold; none when the code names no request, or when `f` is shorter
than the request's minimum field length: its fixed fields and the entries its count byte names (R59, R60). Fields
beyond those the request uses are ignored. -/
def requestOf (code : Nat) (f : List Byte) : Option Request :=
  if code = 1 then some .queryState
  else if code = 2 then some .queryRanges
  else if code = 3 then some .queryCredentials
  else if code = 4 then some .setAttention
  else if code = 5 then some .selfTest
  else if code = 16 then
    if 32 ≤ f.length then some (.takeOwnership (BitVec.ofNat 256 (fieldAt f 0 32))) else none
  else if code = 17 then
    if 64 ≤ f.length then some (.presentPlatform (BitVec.ofNat 512 (fieldAt f 0 64))) else none
  else if code = 18 then
    if 1 ≤ f.length then some (.unlock (byteAt f 0)) else none
  else if code = 19 then
    if 36 ≤ f.length ∧ 36 + (byteAt f 35).toNat ≤ f.length then
      some (.setCredential (byteAt f 0) (byteAt f 1) (byteAt f 2) (BitVec.ofNat 256 (fieldAt f 3 32))
        ((f.drop 36).take (byteAt f 35).toNat))
    else none
  else if code = 20 then
    if 32 ≤ f.length then some (.changeSecret (BitVec.ofNat 256 (fieldAt f 0 32))) else none
  else if code = 32 then
    if 1 ≤ f.length ∧ 1 + (byteAt f 0).toNat ≤ f.length then some (.lock ((f.drop 1).take (byteAt f 0).toNat)) else none
  else if code = 33 then
    if 1 ≤ f.length ∧ 1 + 3 * (byteAt f 0).toNat ≤ f.length then
      some (.setLocks (lockEntries (byteAt f 0).toNat (f.drop 1)))
    else none
  else if code = 34 then some .endSession
  else if code = 48 then
    if 20 ≤ f.length then
      some (.defineRange (byteAt f 0) (byteAt f 1) (byteAt f 2) (BitVec.ofNat 48 (fieldAt f 8 6))
        (BitVec.ofNat 48 (fieldAt f 14 6)))
    else none
  else if code = 49 then if 1 ≤ f.length then some (.deleteRange (byteAt f 0)) else none
  else if code = 50 then some .imageWriteEnable
  else if code = 64 then
    if 5 ≤ f.length then some (.setPolicy (byteAt f 0) (byteAt f 1) (byteAt f 2) (byteAt f 3) (byteAt f 4)) else none
  else if code = 65 then
    if 65 ≤ f.length then some (.bindPlatform (byteAt f 0) (BitVec.ofNat 512 (fieldAt f 1 64))) else none
  else if code = 66 then some .finalize
  else if code = 80 then if 1 ≤ f.length then some (.eraseRange (byteAt f 0)) else none
  else if code = 81 then some .wipe
  else none

/-! ## Envelopes -/

/-- The byte that stands for no authorization block (section 3.10). -/
def noBlock : Byte := 255

/-- An authorization block of no slot. -/
def AuthBlock.absent : AuthBlock := ⟨noBlock, 0⟩

/-- A control request envelope (section 3.10): code, field length, credential slot, three zero bytes, secret, fields. -/
def envelopeOf (auth : AuthBlock) (r : Request) : List Byte :=
  leBytes 2 r.code ++ leBytes 2 r.fields.length ++ [auth.slot, 0, 0, 0] ++ leBytes 32 auth.secret.toNat ++ r.fields

/-- An envelope that passed its test: the request, and the block when byte 4 names a slot 0..7. -/
structure Envelope where
  request : Request
  auth : Option (SlotIndex × Secret)
  deriving DecidableEq, Repr

/-- The code an envelope carries in its bytes 0..1, echoed in the response (section 3.10). For an envelope of fewer than two
bytes, which fails its test (R59), the code is a free value (notes/assumptions/24.md). -/
def envelopeCode (bytes : List Byte) : Nat :=
  if bytes.length < 2 then (Config.shortEnvelopeCode bytes).toNat else fieldAt bytes 0 2

/-- The credential slot byte 4 names, or none for 255; the outer none for 8..254 (R59). -/
def blockSlot (b : Byte) : Option (Option SlotIndex) :=
  if h : b.toNat < 8 then some (some ⟨b.toNat, h⟩)
  else if b = noBlock then some none
  else none

/-- The envelope test of R59, on an envelope of stated length `length` whose first 1024 bytes are `bytes`; none is the
answer INVALID. -/
def readEnvelope (length : Nat) (bytes : List Byte) : Option Envelope :=
  if length < 40 ∨ 1024 < length then none
  else if length ≠ 40 + fieldAt bytes 2 2 then none
  else
    match blockSlot (byteAt bytes 4), requestOf (envelopeCode bytes) (bytes.drop 40) with
    | some slot, some request => some ⟨request, slot.map fun i => (i, BitVec.ofNat 256 (fieldAt bytes 8 32))⟩
    | _, _ => none

/-! ## Capsules -/

/-- The 16-byte header of a capsule, and the envelope that follows a CONTROL header (section 3.10). The part sends zero
in the bytes stated as zero (R57). -/
def Capsule.bytes (c : Capsule) : List Byte :=
  [c.kind, c.tag] ++ leBytes 2 c.count.toNat ++ leBytes 6 c.lba.toNat ++ [0, 0] ++ leBytes 4 c.envelope.length ++ c.envelope

/-- The capsule at the head of the bytes of the capsule lane, and the bytes after it (R57, R58): a CONTROL header is
followed by as many bytes as its bytes 12..15 say, any other header by none. None while the bytes do not hold a whole
capsule. -/
def readCapsule (bytes : List Byte) : Option (Capsule × List Byte) :=
  if bytes.length < 16 then none
  else
    let stated := if byteAt bytes 0 = Kind.code .control then fieldAt bytes 12 4 else 0
    if bytes.length < 16 + stated then none
    else some (⟨byteAt bytes 0, byteAt bytes 1, BitVec.ofNat 16 (fieldAt bytes 2 2), BitVec.ofNat 48 (fieldAt bytes 4 6),
      (bytes.drop 16).take stated⟩, bytes.drop (16 + stated))

/-- A capsule of a kind without LBA and count, their bytes zero (R57). -/
def Capsule.plain (kind tag : Byte) (envelope : List Byte) : Capsule := ⟨kind, tag, 0, 0, envelope⟩

/-- A CONTROL capsule carrying a request (section 3.10, R60). -/
def Capsule.request (tag : Byte) (auth : AuthBlock) (r : Request) : Capsule :=
  Capsule.plain (Kind.code .control) tag (envelopeOf auth r)

/-- The command that taking a capsule is (R45). The count and LBA of FLUSH, IDENTIFY, CONTROL and notices, and the tag
byte of a notice, are ignored (R45, R57). -/
def Capsule.command (c : Capsule) : Instr :=
  match kindOfByte c.kind with
  | .tagged .read => .read c.tag c.lba c.count
  | .tagged .write => .write c.tag c.lba c.count
  | .tagged .deallocate => .deallocate c.tag c.lba c.count
  | .tagged .flush => .flush c.tag
  | .tagged .identify => .identify c.tag
  | .tagged .control => .control c.tag c.envelope
  | .notice .linkReset => .linkReset
  | .notice .powerEnter => .powerEnter
  | .notice .powerExit => .powerExit
  | .undefined => .undefinedKindCapsule c.kind c.tag

/-- The capsule that a capsule-lane command puts on the lane; none for a command that is no capsule. -/
def Instr.capsule? : Instr → Option Capsule
  | .read tag lba count => some ⟨Kind.code .read, tag, count, lba, []⟩
  | .write tag lba count => some ⟨Kind.code .write, tag, count, lba, []⟩
  | .deallocate tag lba count => some ⟨Kind.code .deallocate, tag, count, lba, []⟩
  | .flush tag => some (.plain (Kind.code .flush) tag [])
  | .identify tag => some (.plain (Kind.code .identify) tag [])
  | .control tag envelope => some (.plain (Kind.code .control) tag envelope)
  | .undefinedKindCapsule kind tag => some (.plain kind tag [])
  | .linkReset => some (.plain (Notice.code .linkReset) 0 [])
  | .powerEnter => some (.plain (Notice.code .powerEnter) 0 [])
  | .powerExit => some (.plain (Notice.code .powerExit) 0 [])
  | .queryState tag auth => some (.request tag auth .queryState)
  | .queryRanges tag auth => some (.request tag auth .queryRanges)
  | .queryCredentials tag auth => some (.request tag auth .queryCredentials)
  | .setAttention tag auth => some (.request tag auth .setAttention)
  | .selfTest tag auth => some (.request tag auth .selfTest)
  | .takeOwnership tag auth newSecret => some (.request tag auth (.takeOwnership newSecret))
  | .presentPlatform tag auth token => some (.request tag auth (.presentPlatform token))
  | .unlock tag auth handover => some (.request tag auth (.unlock handover))
  | .setCredential tag auth target kind state secret reveal =>
      some (.request tag auth (.setCredential target kind state secret reveal))
  | .changeSecret tag auth newSecret => some (.request tag auth (.changeSecret newSecret))
  | .lock tag auth ranges => some (.request tag auth (.lock ranges))
  | .setLocks tag auth entries => some (.request tag auth (.setLocks entries))
  | .endSession tag auth => some (.request tag auth .endSession)
  | .defineRange tag auth index flags lockOn start length =>
      some (.request tag auth (.defineRange index flags lockOn start length))
  | .deleteRange tag auth index => some (.request tag auth (.deleteRange index))
  | .imageWriteEnable tag auth => some (.request tag auth .imageWriteEnable)
  | .setPolicy tag auth freeTries attemptLimit absenceLimit enclosure depth =>
      some (.request tag auth (.setPolicy freeTries attemptLimit absenceLimit enclosure depth))
  | .bindPlatform tag auth policy token => some (.request tag auth (.bindPlatform policy token))
  | .finalize tag auth => some (.request tag auth .finalize)
  | .eraseRange tag auth index => some (.request tag auth (.eraseRange index))
  | .wipe tag auth => some (.request tag auth .wipe)
  | .writeDataSector .. | .readDataSector .. | .readSectorPassedUpstream .. | .zeroWriteSectorSent ..
  | .downstreamCompletion .. | .storeWriteCompletion | .backoffExpiry | .enclosureOpening | .enclosureClosing
  | .powerGood .. | .selfTestEnd .. | .powerLoss .. | .writeSectorSentDownstream .. => none

/-- The reading of a table word. No row of spec/opcode_table.json gives bits (the commands are not words), so no word
spells a command. -/
def decodeTableWord (_nbits _w : Nat) : Option Instr := none

end Sys2Proof
end

