-- ==== Sys2Proof/Machine/CipherUnit.lean ====
section
/-! DEFINITION. Machine/CipherUnit.lean: the Cipher Unit on sectors (section 2.2). -/

namespace Sys2Proof.Machine

/-- The sector tweak of a media LBA: the LBA as an unsigned 128-bit integer (R31). -/
def tweakOf (lba : Nat) : Tweak := BitVec.ofNat 128 lba

/-- Enciphers a sector, block by block, under a key and a tweak (R31). -/
def encipher (key : Key) (tweak : Tweak) (x : Sector) : Sector :=
  Vector.ofFn fun j : Fin 32 => Config.blockCipher.perm key tweak j x[j]

/-- Deciphers a sector: the inverse under the same inputs (R31). -/
def decipher (key : Key) (tweak : Tweak) (x : Sector) : Sector :=
  Vector.ofFn fun j : Fin 32 => (Config.blockCipher.perm key tweak j).symm x[j]

end Sys2Proof.Machine
end

