-- ==== Sys2Proof/Machine/State.lean ====
section
/-! DEFINITION. Machine/State.lean: the whole state of the part, as plain data, and its value after reset.
Each field cites the rule that gives it; INVENTORY.md lists them with their reset values. -/

namespace Sys2Proof.Machine

/-! ## Access, faults and power -/

/-- The access state (00_scope.md, R11). `starting` is the model's own: no access state has been entered yet, because
power is off or the power-up sequence has not decided (R166). -/
inductive Access where
  | starting
  | blank
  | locked
  | staged
  | opened
  | dormant
  | wiping
  | fault
  deriving DecidableEq, Repr

/-- The cause of FAULT (R128). -/
inductive FaultCause where
  | selfTest
  | store
  deriving DecidableEq, Repr

/-- Where the part stands between power-good and power loss (R165 to R168): no power; the scan's repair writes not all
completed; the known-answer test of the sequence running; the absence step's write awaited; the last step reached. -/
inductive Power where
  | off
  | scan (repairs : Nat)
  | selfTest
  | absence
  | running
  deriving DecidableEq, Repr

/-- The platform state (R112). -/
inductive PlatformState where
  | unpresented
  | matched
  | mismatched
  deriving DecidableEq, Repr

/-- The provisioning state (R97), derived and never stored. -/
inductive Provisioning where
  | blank
  | owned
  | final
  deriving DecidableEq, Repr

/-! ## Records (chapter 5) -/

/-- The identity record: media capacity M in sectors, and the device key (R79). -/
structure Identity where
  capacity : Nat
  deviceKey : Key
  deriving DecidableEq, Repr

/-- A wrap list entry: a range index, the generation of the key it holds, the wrapped key and the check (R81). -/
structure Wrap where
  range : RangeIndex
  generation : Generation
  wrapped : Key
  check : Check
  deriving DecidableEq, Repr

/-- The kind of a credential record (R80). -/
inductive CredentialKind where
  | blank
  | owner
  | user
  | wipe
  | empty
  deriving DecidableEq, Repr

/-- The stored state of a credential (R80); absent for BLANK and EMPTY. -/
inductive CredentialState where
  | active
  | disabled
  deriving DecidableEq, Repr

/-- A credential record (R80). -/
structure Credential where
  kind : CredentialKind
  state : Option CredentialState
  salt : Option Salt
  verifier : Option Digest
  wraps : List Wrap
  deriving DecidableEq, Repr

/-- The working copy of a credential record with its CORRUPT mark (R82). The record is absent when the scan found it torn
(R94). -/
structure CredentialCopy where
  record : Option Credential
  corrupt : Bool
  deriving DecidableEq, Repr

/-- A lock-on set: a subset of the events LINK_RESET and LOW_POWER (R1). -/
structure LockOn where
  linkReset : Bool
  lowPower : Bool
  deriving DecidableEq, Repr

/-- One of the sixteen entries of the layout (R1). The index is the entry's place. `extent` is start and length, absent
for entry 0 and for undefined entries. -/
structure RangeEntry where
  defined : Bool
  extent : Option (Nat × Nat)
  concealable : Bool
  image : Bool
  writeProtected : Bool
  lockOn : LockOn
  generation : Generation
  deriving DecidableEq, Repr

/-- The layout: sixteen entries (R1, R83). -/
abbrev Layout := Vector RangeEntry 16

/-- The enclosure policy (R84), from least to most strict (R135). -/
inductive EnclosurePolicy where
  | ignore
  | lock
  | wipe
  deriving DecidableEq, Repr

/-- The binding policy (R84), from least to most strict (R136). -/
inductive BindingPolicy where
  | none
  | deny
  | wipe
  deriving DecidableEq, Repr

/-- The wipe depth (R84), from least to most strict (R135). -/
inductive Depth where
  | keys
  | media
  | mediaAndImage
  deriving DecidableEq, Repr

/-- The policy record (R84). -/
structure Policy where
  final : Bool
  freeTries : Nat
  attemptLimit : Nat
  absenceLimit : Nat
  enclosure : EnclosurePolicy
  binding : BindingPolicy
  digest : Option Digest
  depth : Depth
  deriving DecidableEq, Repr

/-- The counters record: attempt count and absence count, each 0..255 (R85). -/
structure Counters where
  attempts : Nat
  absences : Nat
  deriving DecidableEq, Repr

/-- The phase of the wipe record (R86). -/
inductive Phase where
  | none
  | purge
  | sanitize
  deriving DecidableEq, Repr

/-- The reason of a wipe (R86, R141). -/
inductive Reason where
  | attempts
  | absence
  | platform
  | enclosure
  | order
  | duress
  | recovery
  deriving DecidableEq, Repr

/-- The wipe record (R86). -/
structure WipeRecord where
  phase : Phase
  reason : Option Reason
  depth : Option Depth
  keepOwner : Option Bool
  cursor : Option Nat
  skipped : Option Nat
  deriving DecidableEq, Repr

/-- A writable record as the store holds it: with a check value that matches its fields, or torn by a power loss during
its write (R78, R90, R91). -/
inductive Stored (α : Type) where
  | intact (content : α)
  | torn
  deriving DecidableEq, Repr

/-- The Record Store, the part's nonvolatile state: thirteen records (R78). -/
structure Store where
  identity : Identity
  credentials : Vector (Stored Credential) 8
  layout : Stored Layout
  policy : Stored Policy
  counters : Stored Counters
  wipe : Stored WipeRecord
  deriving DecidableEq, Repr

/-- The working copies of the twelve writable records (R78). -/
structure Copies where
  credentials : Vector CredentialCopy 8
  layout : Layout
  policy : Policy
  counters : Counters
  wipe : WipeRecord
  deriving DecidableEq, Repr

/-- What the scan found, kept for the power-up decision and for a recovery wipe's depth (R91, R143). -/
structure ScanResult where
  storeFault : Bool
  policyTorn : Bool
  deriving DecidableEq, Repr

/-! ## The Store Writer (section 5.4) -/

/-- The twelve writable records by name (R78). -/
inductive RecordId where
  | credential (slot : SlotIndex)
  | layout
  | policy
  | counters
  | wipe
  deriving DecidableEq, Repr

/-- The content of one record write (R87). -/
inductive Content where
  | credential (slot : SlotIndex) (content : Credential)
  | layout (content : Layout)
  | policy (content : Policy)
  | counters (content : Counters)
  | wipe (content : WipeRecord)
  deriving DecidableEq, Repr

/-- Who awaits a write's completion: the request in service, the Wipe Engine, or the power-up sequence (R89). -/
inductive Waiter where
  | channel
  | engine
  | sequence
  deriving DecidableEq, Repr

/-- A record write with the requesters that await it (R87, R89). -/
structure RecordWrite where
  content : Content
  waiters : List Waiter
  deriving DecidableEq, Repr

/-- The Store Writer: the write in progress and the store write queue in order of request (R87, R88). -/
structure Writer where
  current : Option RecordWrite
  queue : List RecordWrite
  deriving DecidableEq, Repr

/-! ## Views (chapter 1) -/

/-- The kind of a view (section 1.3). -/
inductive ViewKind where
  | full
  | image
  | empty
  | opened
  deriving DecidableEq, Repr

/-- An entry of a view (R5). -/
structure ViewEntry where
  visible : Nat
  media : Nat
  length : Nat
  range : RangeIndex
  deriving DecidableEq, Repr

/-- A view: its kind, its entries, and for an open view the revealed set recorded with it (R5, R9). -/
structure View where
  kind : ViewKind
  entries : List ViewEntry
  revealed : List RangeIndex
  deriving DecidableEq, Repr

/-! ## Key slots and locks (chapter 4) -/

/-- The state of a key slot (R61). -/
inductive SlotState where
  | empty
  | loaded
  | draining
  deriving DecidableEq, Repr

/-- A key slot (R61). -/
structure KeySlot where
  state : SlotState
  key : Option Key
  generation : Option Generation
  uses : Nat
  deriving DecidableEq, Repr

/-- The two locks of a range; true is set (R62). -/
structure Locks where
  readLock : Bool
  writeLock : Bool
  deriving DecidableEq, Repr

/-! ## The Command Table and the ports (chapters 2 and 3) -/

/-- The state of a Command Table entry (R46). -/
inductive EntryState where
  | free
  | forwarded
  | control
  | aborting
  | orphaned
  deriving DecidableEq, Repr

/-- A segment record (R46). `sent` and `arrived` are state the manual only implies: the segment offsets already sent
downstream, by which R39 says what is still owed, and the status of a downstream completion that has arrived, which R37
holds until the last delivered sector has passed. -/
structure Segment where
  lba : Nat
  count : Nat
  range : Option RangeIndex
  slot : Option RangeIndex
  subTag : Nat
  offset : Nat
  received : List Nat
  sent : List Nat
  unpassed : Nat
  arrived : Option Status
  status : Option Status
  deriving DecidableEq, Repr

/-- A Command Table entry (R46); its tag is its place. `identity` holds the back end's identity block of an IDENTIFY
(R50). -/
structure Entry where
  kind : Option Kind
  state : EntryState
  lba : Nat
  count : Nat
  segments : List Segment
  capacity : Option Nat
  merged : Option Status
  identity : Option Sector
  deriving DecidableEq, Repr

/-- A sector inside the part, processed and waiting for a port to take it: read data waiting for the outbound side
(R33, R37), or write data waiting for the Downstream Port (R32). -/
structure HeldSector where
  subTag : Nat
  offset : Nat
  data : Sector
  deriving DecidableEq, Repr

/-! ## Responses -/

/-- The six notices (R126). -/
inductive NoticeName where
  | protocolError
  | rangesLocked
  | backoffEnded
  | enclosureOpened
  | wipeStarted
  | wipeDone
  deriving DecidableEq, Repr

/-- The report of QUERY STATE (R128). -/
structure StateReport where
  access : Access
  provisioning : Provisioning
  faultCause : Option FaultCause
  attempts : Nat
  backoff : Nat
  phase : Phase
  reason : Option Reason
  progress : Nat
  skipped : Nat
  capacity : Nat
  platform : PlatformState
  level : Level
  notices : List NoticeName
  deriving DecidableEq, Repr

/-- One entry of QUERY RANGES without authorization (R131). -/
structure ViewReport where
  visible : Nat
  length : Nat
  readLock : Bool
  writeLock : Bool
  deriving DecidableEq, Repr

/-- One record of the owner form of QUERY RANGES (R132). -/
structure RangeReport where
  index : RangeIndex
  defined : Bool
  extent : Option (Nat × Nat)
  concealable : Bool
  image : Bool
  writeProtected : Bool
  lockOn : LockOn
  generation : Generation
  readLock : Bool
  writeLock : Bool
  slotState : SlotState
  slotGeneration : Option Generation
  uses : Nat
  inView : Bool
  deriving DecidableEq, Repr

/-- The state QUERY CREDENTIALS reports for a slot (R133). -/
inductive ReportedState where
  | active
  | disabled
  | corrupt
  deriving DecidableEq, Repr

/-- One record of QUERY CREDENTIALS (R133). -/
structure CredentialReport where
  kind : Option CredentialKind
  state : Option ReportedState
  ranges : List RangeIndex
  deriving DecidableEq, Repr

/-- The response fields of a control request, as each request's entry names them. -/
inductive Response where
  | noFields
  | capacity (sectors : Nat)
  | platform (state : PlatformState)
  | unlocked (capacity loaded skipped : Nat)
  | ranges (indices : List RangeIndex)
  | extent (start length : Nat)
  | generation (generation : Generation)
  | policy (freeTries attemptLimit absenceLimit : Nat) (enclosure : EnclosurePolicy) (depth : Depth)
  | binding (policy : BindingPolicy)
  | wipe (reason : Reason) (depth : Depth)
  | state (report : StateReport)
  | viewEntries (entries : List ViewReport)
  | layout (mediaCapacity viewCapacity : Nat) (ranges : List RangeReport)
  | credentials (slots : List CredentialReport)
  deriving DecidableEq, Repr

/-- A response envelope: the request code echoed and the response fields (section 3.10). -/
structure ResponseEnvelope where
  code : Nat
  fields : Response
  deriving DecidableEq, Repr

/-! ## What the ports send -/

/-- What the outbound side of the Upstream Port sends (R44). -/
inductive UpMessage where
  /-- A completion: kind byte, tag byte, status, capacity, response envelope, identity block (section 3.10). -/
  | completion (kind tag : Byte) (status : Status) (capacity : Nat) (response : Option ResponseEnvelope)
      (identity : Option Sector)
  | acknowledgement (notice : Notice) (status : Status)
  | readData (tag : Nat) (offset : Nat) (data : Sector)
  deriving DecidableEq, Repr

/-- What the Downstream Port sends (section 3.4). -/
inductive DownMessage where
  /-- A segment command or a sanitize step: kind, sub-tag, media LBA, count. -/
  | command (kind : Kind) (subTag lba count : Nat)
  | writeData (subTag offset : Nat) (data : Sector)
  | notice (notice : Notice)
  deriving DecidableEq, Repr

/-! ## The control channel (chapters 6 and 7) -/

/-- A request waiting in the control queue: its tag, its envelope's stated length and the bytes kept of it
(R58, R120). -/
structure Waiting where
  tag : Tag
  length : Nat
  bytes : List Byte
  deriving DecidableEq, Repr

/-- What a range request does to its range (R20, R21, R163). -/
inductive RangeChange where
  | defineKeyed
  | defineImage
  | delete
  | erase
  deriving DecidableEq, Repr

/-- A multi-record range request under way: its range, what it does, its answer, and the lowest user slot whose record it
has not looked at yet (R96). -/
structure RangeJob where
  range : RangeIndex
  change : RangeChange
  answer : Response
  nextSlot : Nat
  deriving DecidableEq, Repr

/-- How far the request in service has come: which write, drain or test it awaits (R89, R121). -/
inductive Stage where
  /-- Stage 4 of the gate: the raised attempt count is being written (R100). -/
  | gateCount
  /-- Stage 7 of the gate: the zeroed counts are being written (R104). -/
  | gateReset
  /-- The owner's range 0 wrap is being written (R151). -/
  | ownerWrap
  /-- TAKE OWNERSHIP awaits slot 0 (R114). -/
  | takeOwnership
  /-- The single write of the request is awaited; its completion answers GOOD (R89). -/
  | lastWrite (answer : Response)
  | rangeLayout (job : RangeJob)
  | rangeOwner (job : RangeJob)
  | rangeUser (job : RangeJob)
  /-- A held LOCK, waiting on the slots of the ranges it took (R71). -/
  | holdLock (ranges : List RangeIndex)
  /-- A held END SESSION (R75). -/
  | holdEndSession
  /-- A held ERASE RANGE (R162). -/
  | holdErase (range : RangeIndex)
  /-- A held SELF TEST whose test has not begun (R139). -/
  | holdTest
  /-- A SELF TEST whose test is running (R41). -/
  | testing
  /-- The effect of an UNLOCK with handover AT_LINK_RESET has ended and its response has yet to be handed out; a link reset
  taken before that discards it (R14). The model's own stage, entered under `Config.answerFollows`. -/
  | answering (answer : Response)
  deriving DecidableEq, Repr

/-- The request in the service place. `servedIn` is the access state in which it entered service; `discard` says that a
link reset took its response away (R123); `struck` that a wipe has struck it and it is to be answered WIPED
(R105, R124). -/
structure Service where
  tag : Tag
  code : Nat
  request : Request
  auth : Option (SlotIndex × Secret)
  servedIn : Access
  stage : Stage
  discard : Bool
  struck : Bool
  deriving DecidableEq, Repr

/-- The notice set: each of the six names is in the set or not (R126). -/
structure NoticeSet where
  protocolError : Bool
  rangesLocked : Bool
  backoffEnded : Bool
  enclosureOpened : Bool
  wipeStarted : Bool
  wipeDone : Bool
  deriving DecidableEq, Repr

/-! ## The Wipe Engine (chapter 8) -/

/-- How far a wipe has come. `recorded`: the store holds a wipe that FAULT keeps waiting (R143). The `…Wait` stages wait
in DORMANT for POWER EXIT (R161); every stage named for a record awaits that record's write. -/
inductive WipeStage where
  | recorded
  | purgeWrite
  | layoutWrite
  | ownerWrite
  | policyWrite
  | userWrite (slot : SlotIndex)
  | countersWrite
  | sanitizeWrite
  | sanitizeWait
  | sanitizing
  | finishWait
  | finishOwner
  | finishNone
  deriving DecidableEq, Repr

/-- The wipe in progress: its reason, depth and keep-owner (R141, R147), the skipped count (R155), and whether it was
begun or resumed in FAULT (SELF_TEST), to which it returns (R150). -/
structure WipeJob where
  stage : WipeStage
  reason : Reason
  depth : Depth
  keepOwner : Bool
  skipped : Nat
  fromSelfTestFault : Bool
  deriving DecidableEq, Repr

/-- The state of a sanitize step (R153). -/
inductive StepState where
  | issued
  | done
  deriving DecidableEq, Repr

/-- A sanitize step (R153). -/
structure SanitizeStep where
  start : Nat
  length : Nat
  subTag : Nat
  state : StepState
  mediaError : Bool
  deriving DecidableEq, Repr

/-- The sanitize under way: the issue pointer, the last step made on each of the sub-tags 64..67, and the frontier
(R153, R154, R156). -/
structure Sanitize where
  issue : Nat
  steps : List SanitizeStep
  frontier : Nat
  deriving DecidableEq, Repr

/-- The Wipe Engine: the wipe in progress, if any, and its sanitize, if one has started (R141, R166). -/
structure Engine where
  job : Option WipeJob
  sanitize : Option Sanitize
  deriving DecidableEq, Repr

/-- The known-answer vector, placed at manufacture (R40). -/
structure KnownAnswer where
  key : Key
  tweak : Tweak
  plain : Sector
  expected : Sector
  deriving DecidableEq, Repr

/-! ## The state -/

/-- The state of the part. -/
structure State where
  /-- The commands that wait to be taken, first in, first out (the block's own queue of this model). -/
  pending : List Instr
  power : Power
  access : Access
  /-- The DORMANT resume state, held in DORMANT only (R171). -/
  resume : Option Access
  faultCause : Option FaultCause
  store : Store
  copies : Copies
  scan : ScanResult
  writer : Writer
  /-- The current view; absent until the power-up sequence enters an access state (R166). -/
  view : Option View
  pendingView : Option View
  /-- The image write latch (R16). -/
  latch : Bool
  slots : Vector KeySlot 16
  locks : Vector Locks 16
  /-- A session end is pending (R74). -/
  sessionEnd : Bool
  table : Vector Entry 32
  /-- The outstanding sub-tags of the Downstream Port, ascending (R49). -/
  outstanding : List Nat
  /-- Capsules offered on the capsule lane and not yet taken, in the front end's order (R42). -/
  lane : List Capsule
  /-- Write data sectors offered on the data lane and not yet taken (R43). -/
  dataLane : List DataSector
  /-- Read sectors deciphered and not yet sent upstream (R33, R37). -/
  readHeld : List HeldSector
  /-- Write sectors processed and not yet taken by the Downstream Port (R32). -/
  writeHeld : List HeldSector
  /-- What has been handed to the outbound side in this power cycle, oldest first (R44, R56). -/
  outbound : List UpMessage
  /-- What the Downstream Port has sent in this power cycle, oldest first (section 3.4). -/
  downstream : List DownMessage
  service : Option Service
  queue : List Waiting
  notices : NoticeSet
  /-- The attention enable (R127). -/
  attention : Bool
  /-- The back-off timer: whole seconds remaining while it runs, absent when it is stopped (R103). -/
  backoff : Option Nat
  platform : PlatformState
  /-- A PRESENT PLATFORM has been served in this power cycle (R113). -/
  presented : Bool
  /-- A POWER ENTER is held for drain (R170). -/
  heldPowerEnter : Bool
  engine : Engine
  /-- The Enclosure Monitor's sampled level and latched opening (R144). -/
  level : Level
  latched : Bool
  vector : KnownAnswer
  /-- How many free values have been drawn: the argument of the next `Config.freshKey`, `Config.freshSalt`,
  `Config.powerEnterFirst`, `Config.dataLaneFirst` or `Config.answerFollows`. The model's own field. -/
  draws : Nat
  deriving DecidableEq, Repr

/-- The reasons for which the machine could stop with a fault. There is none: every command of the table has an effect
in every state of the part. -/
inductive Fault where
  deriving DecidableEq, Repr

/-- The reasons for which a command could be refused. -/
inductive Refusal where
  /-- Raised by an arm of `exec` for a command without a meaning; no arm raises it. Safe: the machine stops. -/
  | notModelled (mnemonic : String)
  deriving DecidableEq, Repr

/-! ## Manufacture and reset -/

/-- An undefined range at generation 0 (R1). For the undefined entries at manufacture and in the copy of a torn layout the manual
gives no flags, no lock-on set and no extent: the model takes them clear, empty and absent, as R21 and R148 clear and empty
them (DESIGN CHOICE, notes/assumptions/39.md). -/
def RangeEntry.undefined : RangeEntry := ⟨false, none, false, false, false, ⟨false, false⟩, 0⟩

/-- The global range's entry at generation 0 (R1). -/
def RangeEntry.global : RangeEntry := ⟨true, none, false, false, false, ⟨false, false⟩, 0⟩

/-- The layout at manufacture: entry 0 alone defined, every generation 0 (R1, R78). -/
def Layout.manufactured : Layout := (Vector.replicate 16 RangeEntry.undefined).set 0 RangeEntry.global

/-- The policy record's defaults (R84). -/
def Policy.defaults : Policy := ⟨false, 5, 0, 0, .ignore, .none, none, .keys⟩

/-- The counters at manufacture (R78). -/
def Counters.zero : Counters := ⟨0, 0⟩

/-- The wipe record at manufacture: phase NONE, no last wipe (R78). -/
def WipeRecord.fresh : WipeRecord := ⟨.none, Option.none, Option.none, Option.none, Option.none, Option.none⟩

/-- A credential record of kind EMPTY (R80). -/
def Credential.empty : Credential := ⟨.empty, none, none, none, []⟩

/-- A credential record of kind BLANK with the device wrap `w` (R80). -/
def Credential.blank (w : Wrap) : Credential := ⟨.blank, none, none, none, [w]⟩

/-- The media capacity of the drive of `State.reset`: that of the manual's worked cases (section 1.7, chapter 10).
DESIGN CHOICE: M is fixed at manufacture within bounds (R79), see notes/assumptions/1.md. -/
def manufacturedCapacity : Nat := 400000000

/-- The device key of the drive of `State.reset`. DESIGN CHOICE, notes/assumptions/1.md. -/
def manufacturedDeviceKey : Key := 0

/-- The global key of the drive of `State.reset`. DESIGN CHOICE, notes/assumptions/1.md. -/
def manufacturedGlobalKey : Key := 0

/-- The device wrap of the manufactured global key at generation 0 (R78, R79, R106). -/
def manufacturedDeviceWrap : Wrap :=
  ⟨0, 0, Config.keyCipher manufacturedDeviceKey manufacturedGlobalKey,
    Config.wrapCheck manufacturedDeviceKey manufacturedGlobalKey⟩

/-- The Record Store at manufacture (R78). -/
def Store.manufactured : Store where
  identity := ⟨manufacturedCapacity, manufacturedDeviceKey⟩
  credentials := (Vector.replicate 8 (.intact Credential.empty)).set 0 (.intact (Credential.blank manufacturedDeviceWrap))
  layout := .intact Layout.manufactured
  policy := .intact Policy.defaults
  counters := .intact Counters.zero
  wipe := .intact WipeRecord.fresh

/-- The working copies before a scan has loaded them. DESIGN CHOICE, notes/assumptions/2.md: nothing reads them before
the scan sets them (R78, R91). -/
def Copies.unloaded : Copies where
  credentials := Vector.replicate 8 ⟨none, false⟩
  layout := Layout.manufactured
  policy := Policy.defaults
  counters := Counters.zero
  wipe := WipeRecord.fresh

/-- An EMPTY slot (R61). -/
def KeySlot.empty : KeySlot := ⟨.empty, none, none, 0⟩

/-- Both locks set (R62). -/
def Locks.both : Locks := ⟨true, true⟩

/-- A FREE entry (R46, R56). -/
def Entry.free : Entry := ⟨none, .free, 0, 0, [], none, none, none⟩

/-- The empty notice set (R125). -/
def NoticeSet.empty : NoticeSet := ⟨false, false, false, false, false, false⟩

/-- The known-answer vector of the drive of `State.reset`: the ciphertext expected is that of a sound unit. DESIGN CHOICE,
notes/assumptions/1.md: the derivation of the vector belongs to the manufacture of the drive (00_scope.md). -/
def KnownAnswer.manufactured : KnownAnswer := ⟨0, 0, zeroSector, encipher 0 0 zeroSector⟩

/-- The part without power: the store, the known-answer vector, the model's draw count and the queue of commands, with
every volatile field at its start value (R56, R125, R166). -/
def State.unpowered (store : Store) (vector : KnownAnswer) (draws : Nat) (pending : List Instr) : State where
  pending := pending
  power := .off
  access := .starting
  resume := none
  faultCause := none
  store := store
  copies := Copies.unloaded
  scan := ⟨false, false⟩
  writer := ⟨none, []⟩
  view := none
  pendingView := none
  latch := false
  slots := Vector.replicate 16 KeySlot.empty
  locks := Vector.replicate 16 Locks.both
  sessionEnd := false
  table := Vector.replicate 32 Entry.free
  outstanding := []
  lane := []
  dataLane := []
  readHeld := []
  writeHeld := []
  outbound := []
  downstream := []
  service := none
  queue := []
  notices := NoticeSet.empty
  attention := false
  backoff := none
  platform := .unpresented
  presented := false
  heldPowerEnter := false
  engine := ⟨none, none⟩
  level := .closed
  latched := false
  vector := vector
  draws := draws

/-- The machine right after reset: a manufactured drive before its first power-good (R78, R165, R166). -/
def State.reset : State := State.unpowered Store.manufactured KnownAnswer.manufactured 0 []

end Sys2Proof.Machine
end

