-- ==== Sys2Proof/Machine/Flags.lean ====
section
/-! DEFINITION. Machine/Flags.lean: the notice set and the attention line (section 7.2). -/

namespace Sys2Proof.Machine

/-- Whether a notice is in the set. -/
def NoticeSet.has (n : NoticeSet) : NoticeName → Bool
  | .protocolError => n.protocolError
  | .rangesLocked => n.rangesLocked
  | .backoffEnded => n.backoffEnded
  | .enclosureOpened => n.enclosureOpened
  | .wipeStarted => n.wipeStarted
  | .wipeDone => n.wipeDone

/-- Setting a notice; one already present leaves the set unchanged (R126). -/
def NoticeSet.add (n : NoticeSet) : NoticeName → NoticeSet
  | .protocolError => { n with protocolError := true }
  | .rangesLocked => { n with rangesLocked := true }
  | .backoffEnded => { n with backoffEnded := true }
  | .enclosureOpened => { n with enclosureOpened := true }
  | .wipeStarted => { n with wipeStarted := true }
  | .wipeDone => { n with wipeDone := true }

/-- The names in the set, in the order of R126's table; the set itself keeps no order. -/
def NoticeSet.names (n : NoticeSet) : List NoticeName :=
  [NoticeName.protocolError, .rangesLocked, .backoffEnded, .enclosureOpened, .wipeStarted, .wipeDone].filter n.has

/-- Sets a notice in the Control Unit's notice set (R126). -/
def State.notify (s : State) (n : NoticeName) : State := { s with notices := s.notices.add n }

/-- Sets a notice when `c` holds (R69, R70). -/
def State.notifyIf (s : State) (c : Bool) (n : NoticeName) : State := if c then s.notify n else s

/-- The attention line: asserted exactly while the enable is on and the notice set is not empty (R127), and deasserted
until the last step of the power-up sequence (R165). -/
def State.attentionLine (s : State) : Bool :=
  decide (s.power = .running) && s.attention && decide (s.notices ≠ NoticeSet.empty)

end Sys2Proof.Machine
end

