-- ==== Sys2Proof/Machine/Ops.lean ====
section
/-! DEFINITION. Machine/Ops.lean: the named operations over the part's state that every family shares: what the ports
send, the Command Table, the outstanding sub-tags, key slots and locks, free values, and the entry of an access state. -/

namespace Sys2Proof.Machine

/-! ## What the ports send -/

/-- Hands a message to the outbound side (R44). -/
def State.sendUp (s : State) (m : UpMessage) : State := { s with outbound := s.outbound ++ [m] }

/-- Sends a message on the Downstream Port (section 3.4). -/
def State.sendDown (s : State) (m : DownMessage) : State := { s with downstream := s.downstream ++ [m] }

/-- Completes a capsule at once with a status alone: no capacity, no response envelope, no identity block (R23, R57). For a
refused IDENTIFY, whose capacity is not recorded, the manual gives the capacity field no value and says of no identity block:
the model sends 0 and none (DESIGN CHOICE, notes/assumptions/46.md). -/
def State.refuse (s : State) (kind tag : Byte) (status : Status) : State :=
  s.sendUp (.completion kind tag status 0 none none)

/-! ## Free values -/

/-- A key the part generates (R106). -/
def State.newKey (s : State) : Key := Config.freshKey s.draws

/-- A salt the part generates (R106). -/
def State.newSalt (s : State) : Salt := Config.freshSalt s.draws

/-- One free value has been drawn. -/
def State.drawn (s : State) : State := { s with draws := s.draws + 1 }

/-! ## Sets of numbers, ascending -/

/-- `x` joins the set `l`. -/
def insertNat (x : Nat) (l : List Nat) : List Nat := l.filter (· < x) ++ x :: l.filter (x < ·)

/-- `x` leaves the set `l`. -/
def removeNat (x : Nat) (l : List Nat) : List Nat := l.filter (· ≠ x)

/-! ## Indices -/

/-- The sixteen range indices, ascending. -/
def allRanges : List RangeIndex := List.finRange 16

/-- The thirty-two tags, ascending. -/
def allTags : List Tag := List.finRange 32

/-- The eight credential slots, ascending. -/
def allSlots : List SlotIndex := List.finRange 8

/-- The tag a tag byte names, if it lies in 0..31 (R45). -/
def tagOf (b : Byte) : Option Tag := if h : b.toNat < 32 then some ⟨b.toNat, h⟩ else none

/-- The range an index byte names, if it lies in 0..15. -/
def rangeOf (b : Byte) : Option RangeIndex := if h : b.toNat < 16 then some ⟨b.toNat, h⟩ else none

/-- The tag whose sub-tags 2 × tag and 2 × tag + 1 hold `subTag`, for a sub-tag of the Admission Unit (R49). -/
def tagOfSubTag (subTag : Nat) : Option Tag := if h : subTag / 2 < 32 then some ⟨subTag / 2, h⟩ else none

/-! ## The Command Table -/

/-- Writes the entry of a tag. -/
def State.setEntry (s : State) (t : Tag) (e : Entry) : State := { s with table := s.table.set t e }

/-- Makes the entry of a tag FREE (R46). -/
def State.freeEntry (s : State) (t : Tag) : State := s.setEntry t Entry.free

/-- No Command Table entry is FORWARDED (R41, R170). -/
def State.noneForwarded (s : State) : Bool := allTags.all fun t => decide (s.table[t].state ≠ .forwarded)

/-! ## Key slots and locks (chapter 4) -/

/-- Writes a key slot. -/
def State.setSlot (s : State) (r : RangeIndex) (k : KeySlot) : State := { s with slots := s.slots.set r k }

/-- Writes the locks of a range. -/
def State.setLocks (s : State) (r : RangeIndex) (l : Locks) : State := { s with locks := s.locks.set r l }

/-- Every key slot is EMPTY (R62). -/
def State.allSlotsEmpty (s : State) : Bool := allRanges.all fun r => decide (s.slots[r].state = .empty)

/-- The use count of a slot rises by one for a segment bound to it (R63). -/
def State.raiseUse (s : State) (r : RangeIndex) : State :=
  s.setSlot r { s.slots[r] with uses := s.slots[r].uses + 1 }

/-- A slot after its use count has fallen by one: a DRAINING slot whose count reaches 0 becomes EMPTY at that event
(R63). -/
def KeySlot.released (k : KeySlot) : KeySlot :=
  if k.state = .draining ∧ k.uses - 1 = 0 then KeySlot.empty else { k with uses := k.uses - 1 }

/-- The use count of a slot falls by one (R63). -/
def State.releaseUse (s : State) (r : RangeIndex) : State := s.setSlot r s.slots[r].released

/-- The release for a segment that names a slot, or none (R30, R34). -/
def State.releaseSegment (s : State) (g : Segment) : State :=
  match g.slot with
  | some r => s.releaseUse r
  | none => s

/-- A slot after a change that sets both locks of its range (R66). -/
def KeySlot.bothLocked (k : KeySlot) : KeySlot :=
  match k.state with
  | .loaded => if k.uses = 0 then KeySlot.empty else { k with state := .draining }
  | .draining | .empty => k

/-- Both-locks a range, with the effect on its slot (R66). -/
def State.bothLock (s : State) (r : RangeIndex) : State :=
  (s.setLocks r Locks.both).setSlot r s.slots[r].bothLocked

/-- Both-locks each range of a list. -/
def State.bothLockAll (s : State) (rs : List RangeIndex) : State := rs.foldl State.bothLock s

/-- Loads a slot: LOADED with a key at a generation, in a slot with no segment bound (R64, R65). -/
def KeySlot.loadedWith (key : Key) (generation : Generation) : KeySlot := ⟨.loaded, some key, some generation, 0⟩

/-- Every slot EMPTY with use count 0 and every range both-locked (R68, R140). -/
def State.emptySlots (s : State) : State :=
  { s with slots := Vector.replicate 16 KeySlot.empty, locks := Vector.replicate 16 Locks.both }

/-! ## The access state -/

/-- Enters an access state. In DORMANT it is the resume state that is set (R174); otherwise the image write latch is
cleared when the state leaves LOCKED (R16). -/
def State.enter (s : State) (a : Access) : State :=
  if s.access = .dormant then { s with resume := some a }
  else { s with access := a, latch := s.latch && decide (a = .locked) }

/-- The state that decides which session there is: in DORMANT the resume state, else the access state (R62). -/
def State.sessionAccess (s : State) : Access :=
  if s.access = .dormant then s.resume.getD .dormant else s.access

/-- The session view (R62): the current view in BLANK and OPEN, the pending view in STAGED, of the resume state in
DORMANT. -/
def State.sessionView (s : State) : Option View :=
  match s.sessionAccess with
  | .blank | .opened => s.view
  | .staged => s.pendingView
  | _ => none

/-! ## Provisioning (R97) -/

/-- The provisioning state derived from the working copies (R97). A slot 0 without a readable record counts as not
BLANK. -/
def State.provisioning (s : State) : Provisioning :=
  if s.copies.credentials[(0 : SlotIndex)].record.any (fun c => decide (c.kind = .blank)) then .blank
  else if s.copies.policy.final then .final
  else .owned

/-- The media capacity M (R79). -/
def State.capacity (s : State) : Nat := s.store.identity.capacity

/-- The capacity of the current view; 0 while none is current (R5). -/
def View.capacity (v : View) : Nat := (v.entries.map ViewEntry.length).sum

/-- The current view's capacity. -/
def State.viewCapacity (s : State) : Nat := (s.view.map View.capacity).getD 0

end Sys2Proof.Machine
end

