-- ==== Sys2Proof/Machine/Views.lean ====
section
/-! DEFINITION. Machine/Views.lean: the media partition, the four kinds of view, concealment and the current view of
each access state (chapter 1). -/

namespace Sys2Proof.Machine

/-- An extent of the media partition: media start, length and range (R4). -/
structure Extent where
  start : Nat
  length : Nat
  range : RangeIndex
  deriving DecidableEq, Repr

/-- Inserts an extent into a list ordered by media start. -/
def insertExtent (e : Extent) : List Extent → List Extent
  | [] => [e]
  | f :: fs => if e.start ≤ f.start then e :: f :: fs else f :: insertExtent e fs

/-- The extents of the defined ranges, in media order (R1, R4). -/
def Layout.extents (l : Layout) : List Extent :=
  (allRanges.filterMap fun r =>
    if l[r].defined then l[r].extent.map fun x => Extent.mk x.1 x.2 r else none).foldr insertExtent []

/-- The walk from `at_` to the end of the media: each extent, and each non-empty stretch before it as an extent of range
0 (R4). -/
def walkMedia (capacity : Nat) : Nat → List Extent → List Extent
  | at_, [] => if at_ < capacity then [⟨at_, capacity - at_, 0⟩] else []
  | at_, e :: es =>
      (if at_ < e.start then [⟨at_, e.start - at_, 0⟩] else []) ++ e :: walkMedia capacity (e.start + e.length) es

/-- The media partition (R4). -/
def Layout.partition (l : Layout) (capacity : Nat) : List Extent := walkMedia capacity 0 l.extents

/-- The IMAGE range, if one is defined, with its start and length (R7). -/
def Layout.imageExtent (l : Layout) : Option Extent :=
  allRanges.findSome? fun r =>
    if l[r].defined && l[r].image then l[r].extent.map fun x => Extent.mk x.1 x.2 r else none

/-- The empty view (section 1.3). -/
def View.empty : View := ⟨.empty, [], []⟩

/-- The full view: one entry, the whole media in range 0 (R6). -/
def View.full (capacity : Nat) : View := ⟨.full, [⟨0, 0, capacity, 0⟩], []⟩

/-- The image view, or the empty view when no IMAGE range is defined (R7). -/
def Layout.imageView (l : Layout) : View :=
  match l.imageExtent with
  | some e => ⟨.image, [⟨0, e.start, e.length, e.range⟩], []⟩
  | none => View.empty

/-- Assigns visible starts to extents by running sum (R8). -/
def layOut : Nat → List Extent → List ViewEntry
  | _, [] => []
  | visible, e :: es => ⟨visible, e.start, e.length, e.range⟩ :: layOut (visible + e.length) es

/-- A wrap is current when its generation equals its range's generation in the layout copy (R2, R95). -/
def Layout.isCurrent (l : Layout) (w : Wrap) : Bool := decide (w.generation = l[w.range].generation)

/-- A wrap list holds a current wrap for a range. -/
def Layout.holdsCurrent (l : Layout) (ws : List Wrap) (r : RangeIndex) : Bool :=
  ws.any fun w => decide (w.range = r) && l.isCurrent w

/-- The revealed set of a wrap list: the defined, non-IMAGE ranges it holds a current wrap for (R9). -/
def Layout.revealed (l : Layout) (ws : List Wrap) : List RangeIndex :=
  allRanges.filter fun r => l[r].defined && !l[r].image && l.holdsCurrent ws r

/-- An extent that the open view for a revealed set keeps: neither the IMAGE extent nor one of a concealed range
(R8, R9). -/
def Layout.keeps (l : Layout) (revealed : List RangeIndex) (e : Extent) : Bool :=
  !l[e.range].image && !(l[e.range].concealable && !revealed.contains e.range)

/-- The open view for a wrap list (R8). -/
def Layout.openView (l : Layout) (capacity : Nat) (ws : List Wrap) : View :=
  ⟨.opened, layOut 0 ((l.partition capacity).filter (l.keeps (l.revealed ws))), l.revealed ws⟩

/-- A range has an extent in a view. -/
def View.shows (v : View) (r : RangeIndex) : Bool := v.entries.any fun e => decide (e.range = r)

/-- A range has an extent in a view that may be absent. -/
def shownIn (v : Option View) (r : RangeIndex) : Bool := (v.map fun w => w.shows r).getD false

/-- Sets the current view and drops the pending view. -/
def State.show (s : State) (v : View) : State := { s with view := some v, pendingView := none }

/-- The view of LOCKED: the image view or the empty view (R11). -/
def State.showLocked (s : State) : State := s.show s.copies.layout.imageView

/-- Enters BLANK with the full view (R11). -/
def State.enterBlank (s : State) : State := (s.enter .blank).show (View.full s.capacity)

/-- Enters LOCKED with the image view or the empty view (R11). -/
def State.enterLocked (s : State) : State := (s.enter .locked).showLocked

/-- Enters WIPING with the empty view (R11). -/
def State.enterWiping (s : State) : State := (s.enter .wiping).show View.empty

/-- Enters FAULT with a cause and the empty view (R11). -/
def State.enterFault (s : State) (c : FaultCause) : State :=
  { (s.enter .fault).show View.empty with faultCause := some c }

/-- The layout copy takes new content. In LOCKED, or DORMANT with resume state LOCKED, the current view is rebuilt from
it (R3, R12). -/
def State.takeLayout (s : State) (l : Layout) : State :=
  let s' := { s with copies := { s.copies with layout := l } }
  if s.sessionAccess = .locked then { s' with view := some l.imageView } else s'

end Sys2Proof.Machine
end

