-- ==== Sys2Proof/Machine/Cipher.lean ====
section
/-! DEFINITION. Machine/Cipher.lean: the wrapping and unwrapping of range keys (section 6.2). -/

namespace Sys2Proof.Machine

/-- The wrap of a range key under a key-wrapping key, at a generation (R106). -/
def wrapKey (kwk : Key) (r : RangeIndex) (g : Generation) (key : Key) : Wrap :=
  ⟨r, g, Config.keyCipher kwk key, Config.wrapCheck kwk key⟩

/-- Unwrapping: the key when the recomputed check matches, none when it mismatches (R107). -/
def unwrapKey (kwk : Key) (w : Wrap) : Option Key :=
  if Config.wrapCheck kwk ((Config.keyCipher kwk).symm w.wrapped) = w.check
  then some ((Config.keyCipher kwk).symm w.wrapped) else none

/-- A range key with its range and its generation. -/
structure RangeKey where
  range : RangeIndex
  generation : Generation
  key : Key
  deriving DecidableEq, Repr

/-- Unwraps every wrap of a list; any mismatch fails the whole (R107). -/
def unwrapAll (kwk : Key) : List Wrap → Option (List RangeKey)
  | [] => some []
  | w :: ws =>
      match unwrapKey kwk w, unwrapAll kwk ws with
      | some k, some ks => some (⟨w.range, w.generation, k⟩ :: ks)
      | _, _ => none

/-- The wraps of a list that are current, which alone are ever unwrapped or kept by a write (R95). -/
def Layout.currentWraps (l : Layout) (ws : List Wrap) : List Wrap := ws.filter l.isCurrent

/-- A wrap list names a range, by a current or a stale wrap. -/
def namesRange (ws : List Wrap) (r : RangeIndex) : Bool := ws.any fun w => decide (w.range = r)

/-- Adds a wrap in place of any the list holds for its range, the list in ascending range order (R81). -/
def putWrap (w : Wrap) (ws : List Wrap) : List Wrap :=
  ws.filter (fun x => decide (x.range < w.range)) ++ w :: ws.filter (fun x => decide (w.range < x.range))

/-- A wrap list without the wraps of a range. -/
def dropWrap (r : RangeIndex) (ws : List Wrap) : List Wrap := ws.filter fun w => decide (w.range ≠ r)

/-- The key-wrapping key of a credential, from the secret presented and the record's salt (R106). -/
def Credential.wrappingKey (c : Credential) (secret : Secret) : Key := Config.wrappingKey secret (c.salt.getD 0)

end Sys2Proof.Machine
end

