-- ==== Sys2Proof/Machine/Operands.lean ====
section
/-! DEFINITION. Machine/Operands.lean: the course of a data capsule's visible LBA and count through the stages of chapter
2: count check, bounds check, lookup and split, map, lock check, bind. -/

namespace Sys2Proof.Machine

/-- One piece of a data capsule after the map stage: media LBA, count, range and command offset (R27). -/
structure Piece where
  lba : Nat
  count : Nat
  range : RangeIndex
  offset : Nat
  deriving DecidableEq, Repr

/-- The outcome of the stages: the pieces to bind, or the refusal of the first stage that refuses (R23). -/
inductive Resolution where
  | pieces (ps : List Piece)
  | refused (status : Status)
  deriving DecidableEq, Repr

/-- The extent lookup: the entry that holds visible LBA `v`, and the entry that follows it (R10). -/
def findEntry (v : Nat) : List ViewEntry → Option (ViewEntry × Option ViewEntry)
  | [] => none
  | e :: es => if e.visible ≤ v ∧ v < e.visible + e.length then some (e, es.head?) else findEntry v es

/-- Lookup, split and map (R26, R27): one piece, two, or none when the capsule would reach a third entry. -/
def View.split (w : View) (v c : Nat) : Option (List Piece) :=
  match findEntry v w.entries with
  | none => none
  | some (e, next) =>
      let n0 := min c (e.visible + e.length - v)
      let first : Piece := ⟨e.media + (v - e.visible), n0, e.range, 0⟩
      if n0 = c then some [first]
      else
        match next with
        | some f => if c - n0 ≤ f.length then some [first, ⟨f.media, c - n0, f.range, n0⟩] else none
        | none => none

/-- The lock check of a piece of a keyed range (R28). -/
def State.keyedPasses (s : State) (k : Kind) (r : RangeIndex) : Bool :=
  (match k with
    | .read => !s.locks[r].readLock
    | _ => !s.locks[r].writeLock) && decide (s.slots[r].state = .loaded)

/-- The lock check of a piece of the image view (R29). -/
def State.imagePasses (s : State) (k : Kind) : Bool :=
  match k with
  | .read => decide (s.access = .locked) || decide (s.access = .staged)
  | _ => decide (s.access = .locked) && s.latch

/-- The lock check of a piece resolved through a view (R28, R29). -/
def State.passes (s : State) (w : View) (k : Kind) (p : Piece) : Bool :=
  match w.kind with
  | .image => s.imagePasses k
  | _ => s.keyedPasses k p.range

/-- The stages of R24 to R29 for a READ, WRITE or DEALLOCATE of count `c` at visible LBA `v`. -/
def State.resolve (s : State) (k : Kind) (v c : Nat) : Resolution :=
  if c = 0 ∨ 1024 < c then .refused .invalid
  else
    match s.view with
    | none => .refused .outOfRange
    | some w =>
        if w.capacity < v + c then .refused .outOfRange
        else
          match w.split v c with
          | none => .refused .invalid
          | some ps => if ps.all (s.passes w k) then .pieces ps else .refused .locked

/-- The segment record of a piece: segment `i` of the capsule under `t` names its range's key slot, or none through the
image view, and bears sub-tag 2 × tag + i (R30, R34). -/
def segmentOf (t : Tag) (w : ViewKind) (i : Nat) (p : Piece) : Segment where
  lba := p.lba
  count := p.count
  range := some p.range
  slot := if w = .image then none else some p.range
  subTag := 2 * t.val + i
  offset := p.offset
  received := []
  sent := []
  unpassed := 0
  arrived := none
  status := none

/-- The single segment of a FLUSH or an IDENTIFY: no range, no slot, sub-tag 2 × tag (R36). The manual gives its segment record
and its downstream header no LBA and no count (R36, R57): the model takes 0 for both (DESIGN CHOICE,
notes/assumptions/40.md). -/
def bareSegment (t : Tag) : Segment := ⟨0, 0, none, none, 2 * t.val, 0, [], [], 0, none, none⟩

/-- The segment records of a capsule's pieces, in segment order (R27, R30). -/
def segmentsOf (t : Tag) (w : ViewKind) : Nat → List Piece → List Segment
  | _, [] => []
  | i, p :: ps => segmentOf t w i p :: segmentsOf t w (i + 1) ps

/-- Binds one segment: its slot's use count rises, its sub-tag becomes outstanding and its command is sent downstream
(R30, R49). -/
def State.bindSegment (k : Kind) (s : State) (g : Segment) : State :=
  let s' := match g.slot with
    | some r => s.raiseUse r
    | none => s
  { s' with outstanding := insertNat g.subTag s'.outstanding }.sendDown (.command k g.subTag g.lba g.count)

/-- The bind stage: each segment is bound and the entry becomes FORWARDED (R30, R36). -/
def State.bind (s : State) (t : Tag) (k : Kind) (v c : Nat) (gs : List Segment) (capacity : Option Nat) : State :=
  (gs.foldl (State.bindSegment k) s).setEntry t ⟨some k, .forwarded, v, c, gs, capacity, none, none⟩

end Sys2Proof.Machine
end

