-- ==== Sys2Proof/Machine/Table.lean ====
section
/-! DEFINITION. Machine/Table.lean: how segments finish and entries of the Command Table complete, abort and are
orphaned (sections 2.3 and 3.5). -/

namespace Sys2Proof.Machine

/-- Every segment of an entry has finished (R37). -/
def Entry.allFinished (e : Entry) : Bool := e.segments.all fun g => g.status.isSome

/-- The merged status: the first status in segment order that is not GOOD, else GOOD (R38). -/
def mergedStatus (gs : List Segment) : Status :=
  ((gs.filterMap Segment.status).find? fun st => decide (st ≠ .good)).getD .good

/-- The upstream completion of an entry under its merged status: its own header, the recorded capacity for an IDENTIFY
and zero otherwise, and the identity block the back end returned (R38, R50, R57). -/
def Entry.completion (e : Entry) (t : Tag) (st : Status) : UpMessage :=
  .completion ((e.kind.map Kind.code).getD 0) (BitVec.ofNat 8 t.val) st (e.capacity.getD 0) none e.identity

/-- Forms an entry's merged status, hands its completion to the outbound side and makes the entry FREE (R38, R44). -/
def State.completeEntry (s : State) (t : Tag) (st : Status) : State :=
  (s.sendUp (s.table[t].completion t st)).freeEntry t

/-- When the last segment of an entry has finished, the entry completes with its merged status (FORWARDED), with WIPED
(ABORTING), or silently (ORPHANED) (R38, R52, R54). -/
def State.closeEntry (s : State) (t : Tag) : State :=
  if s.table[t].allFinished then
    match s.table[t].state with
    | .forwarded => s.completeEntry t (mergedStatus s.table[t].segments)
    | .aborting => s.completeEntry t .wiped
    | .orphaned => s.freeEntry t
    | .free | .control => s
  else s

/-- Rewrites the segment that bears a sub-tag. -/
def Entry.updateSegment (e : Entry) (subTag : Nat) (f : Segment → Segment) : Entry :=
  { e with segments := e.segments.map fun g => if g.subTag = subTag then f g else g }

/-- The segment of an entry that bears a sub-tag. -/
def Entry.segment? (e : Entry) (subTag : Nat) : Option Segment := e.segments.find? fun g => decide (g.subTag = subTag)

/-- Rewrites the segment of an entry that bears a sub-tag. -/
def State.updateSegment (s : State) (t : Tag) (subTag : Nat) (f : Segment → Segment) : State :=
  s.setEntry t (s.table[t].updateSegment subTag f)

/-- A segment finishes with the status that arrived for it (R37). -/
def Segment.finished (g : Segment) : Segment := { g with status := g.arrived }

/-- The sectors of a sub-tag leave a list of held sectors. -/
def dropHeld (subTag : Nat) (hs : List HeldSector) : List HeldSector := hs.filter fun h => decide (h.subTag ≠ subTag)

/-- The segment bearing a sub-tag of a tag's entry finishes: its status is recorded, its slot's use count falls when the
entry is FORWARDED, and the entry completes if it was the last (R37, R39, R63). Write sectors of the segment not yet sent
are dropped with it. -/
def State.finishSegment (s : State) (t : Tag) (g : Segment) : State :=
  let s1 := s.updateSegment t g.subTag Segment.finished
  let s2 := { s1 with writeHeld := dropHeld g.subTag s1.writeHeld }
  let s3 := if s.table[t].state = .forwarded then s2.releaseSegment g else s2
  s3.closeEntry t

/-- A segment at the moment its entry is struck: its delivered sectors will not pass, so a completion that has arrived
finishes it (R37, R39). -/
def Segment.struck (g : Segment) : Segment := { g with status := g.status <|> g.arrived, unpassed := 0 }

/-- An entry struck by a purge or a link reset (R52, R53). -/
def Entry.struck (e : Entry) (target : EntryState) : Entry :=
  { e with state := target, segments := e.segments.map Segment.struck }

/-- The release of every unfinished segment of a FORWARDED entry (R52, R53). -/
def State.releaseEntry (s : State) (t : Tag) : State :=
  (s.table[t].segments.filter fun g => g.status.isNone).foldl State.releaseSegment s

/-- A purge strikes the entry of a tag: FORWARDED becomes ABORTING, its unfinished segments' use counts are released, and
an entry left with no unfinished segment completes WIPED (R52). -/
def State.abortEntry (s : State) (t : Tag) : State :=
  if s.table[t].state = .forwarded then
    ((s.releaseEntry t).setEntry t (s.table[t].struck .aborting)).closeEntry t
  else s

/-- A link reset strikes the entry of a tag (R53). -/
def State.orphanEntry (s : State) (t : Tag) : State :=
  match s.table[t].state with
  | .forwarded => ((s.releaseEntry t).setEntry t (s.table[t].struck .orphaned)).closeEntry t
  | .aborting => s.setEntry t { s.table[t] with state := .orphaned }
  | .control => s.freeEntry t
  | .free | .orphaned => s

/-- Sectors held inside the part belong to FORWARDED entries only; at a purge and at a link reset they are dropped: read
sectors are not passed (R39), write data not yet sent is discarded (R39). -/
def State.dropHeldSectors (s : State) : State := { s with readHeld := [], writeHeld := [] }

/-- A purge at the Command Table (R52). Where it ends several entries at once, their completions WIPED go in ascending order of
tag: the manual fixes no order between tags (R44) (DESIGN CHOICE, notes/assumptions/42.md). -/
def State.abortTable (s : State) : State := (allTags.foldl State.abortEntry s).dropHeldSectors

/-- A link reset at the Command Table (R53). -/
def State.orphanTable (s : State) : State := (allTags.foldl State.orphanEntry s).dropHeldSectors

end Sys2Proof.Machine
end

