-- ==== Sys2Proof/Machine/Store.lean ====
section
/-! DEFINITION. Machine/Store.lean: the Store Writer and its queue, what a completed write does, the conditions a power
loss leaves, and the power-up scan with its repairs (chapter 5). -/

namespace Sys2Proof.Machine

/-! ## Records by name -/

/-- The record a content belongs to. -/
def Content.record : Content → RecordId
  | .credential i _ => .credential i
  | .layout _ => .layout
  | .policy _ => .policy
  | .counters _ => .counters
  | .wipe _ => .wipe

/-- The store with a record holding new content whole (R87). -/
def Store.put (st : Store) : Content → Store
  | .credential i c => { st with credentials := st.credentials.set i (.intact c) }
  | .layout l => { st with layout := .intact l }
  | .policy p => { st with policy := .intact p }
  | .counters c => { st with counters := .intact c }
  | .wipe w => { st with wipe := .intact w }

/-- The store with a record torn (R90). -/
def Store.tear (st : Store) : RecordId → Store
  | .credential i => { st with credentials := st.credentials.set i .torn }
  | .layout => { st with layout := .torn }
  | .policy => { st with policy := .torn }
  | .counters => { st with counters := .torn }
  | .wipe => { st with wipe := .torn }

/-- A record's working copy takes new content (R87). A credential's CORRUPT mark is cleared (R82); a new layout rebuilds
the view of LOCKED (R12). -/
def State.takeContent (s : State) : Content → State
  | .credential i c => { s with copies := { s.copies with credentials := s.copies.credentials.set i ⟨some c, false⟩ } }
  | .layout l => s.takeLayout l
  | .policy p => { s with copies := { s.copies with policy := p } }
  | .counters c => { s with copies := { s.copies with counters := c } }
  | .wipe w => { s with copies := { s.copies with wipe := w } }

/-! ## Requesting and beginning writes (R87, R88) -/

/-- A write in the queue whose content is replaced by a later request for the same record; those who awaited it are told
with the write that carries the replacing content (R88, R89). -/
def RecordWrite.replace (w : RecordWrite) (c : Content) (who : List Waiter) : RecordWrite := ⟨c, w.waiters ++ who⟩

/-- A request joins the queue: it replaces the queued write of its record, or joins at the tail (R88). -/
def joinQueue (c : Content) (who : List Waiter) (q : List RecordWrite) : List RecordWrite :=
  if q.any fun w => decide (w.content.record = c.record) then
    q.map fun w => if w.content.record = c.record then w.replace c who else w
  else q ++ [⟨c, who⟩]

/-- Requests a record write: it begins at once when the writer is idle and the queue empty, else it joins the queue
(R87, R88). -/
def State.requestWrite (s : State) (c : Content) (who : List Waiter) : State :=
  if s.writer.current = none ∧ s.writer.queue = [] then { s with writer := ⟨some ⟨c, who⟩, []⟩ }
  else { s with writer := { s.writer with queue := joinQueue c who s.writer.queue } }

/-- The writer, when idle, begins the write at the head of the queue (R87). -/
def Writer.beginNext (w : Writer) : Writer :=
  match w.current, w.queue with
  | none, q :: qs => ⟨some q, qs⟩
  | _, _ => w

/-- The part of a write's completion that is the store's own: the record holds the new content whole, its working copy
takes it, and the writer is free (R87). -/
def State.landWrite (s : State) (w : RecordWrite) : State :=
  { s with store := s.store.put w.content, writer := { s.writer with current := none } }.takeContent w.content

/-- A content is what a wipe's first write brings: phase PURGE, for a wipe record that holds phase NONE (R147). -/
def Store.firstPurge (st : Store) : Content → Bool
  | .wipe w =>
      decide (w.phase = .purge) &&
        match st.wipe with
        | .intact r => decide (r.phase = .none)
        | .torn => false
  | _ => false

/-- What a power loss leaves of the store: the record of a write in progress old, new or torn (R90). R181 has the part come up with
no wipe recorded after a loss before a wipe's first PURGE write completes, where R90 lets that write too be torn, and R93 then
repairs the record to a wipe: whether such a loss tears the record or leaves it old is a free value (DESIGN CHOICE,
notes/assumptions/47.md). One that leaves it new finds the write complete (R87). -/
def State.storeAfterLoss (s : State) (cut : WriteCut) : Store :=
  match s.writer.current with
  | none => s.store
  | some w =>
      match cut with
      | .oldContent => s.store
      | .newContent => s.store.put w.content
      | .torn => if s.store.firstPurge w.content && !Config.firstPurgeTears then s.store else s.store.tear w.content.record

/-! ## Legal field values (R91: a record whose check matches but which holds a field outside them is torn) -/

/-- A wrap list in strictly ascending range order (R81). -/
def wrapsAscending : List Wrap → Bool
  | [] => true
  | [_] => true
  | a :: b :: ws => decide (a.range < b.range) && wrapsAscending (b :: ws)

/-- The fields a credential record of each kind has, in a slot that may hold the kind (R80, R81). -/
def Credential.legal (c : Credential) (i : SlotIndex) : Bool :=
  let keyed := c.salt.isSome && c.verifier.isSome
  wrapsAscending c.wraps &&
  match c.kind with
  | .blank => decide (i = 0) && decide (c.state = none) && c.salt.isNone && c.verifier.isNone &&
      decide (c.wraps.map Wrap.range = [0])
  | .owner => decide (i = 0) && decide (c.state = some .active) && keyed
  | .user => decide (i ≠ 0) && c.state.isSome && keyed
  | .wipe => decide (i ≠ 0) && c.state.isSome && keyed && c.wraps.isEmpty
  | .empty => decide (i ≠ 0) && decide (c.state = none) && c.salt.isNone && c.verifier.isNone && c.wraps.isEmpty

/-- Two extents share no sector (00_scope.md, Conventions). -/
def disjoint (a b : Nat × Nat) : Bool := decide (a.1 + a.2 ≤ b.1) || decide (b.1 + b.2 ≤ a.1)

/-- The conditions of R1 on one entry of the layout. -/
def RangeEntry.legal (e : RangeEntry) (r : RangeIndex) (capacity : Nat) : Bool :=
  if r = 0 then
    e.defined && decide (e.extent = none) && !e.concealable && !e.image && !e.writeProtected &&
      decide (e.lockOn = ⟨false, false⟩)
  else
    match e.extent with
    | none => !e.defined
    | some (start, length) =>
        e.defined && decide (start % 8 = 0) && decide (length % 8 = 0) && decide (2048 ≤ length) &&
          decide (start + length ≤ capacity) &&
          (!e.image || (!e.concealable && !e.writeProtected && decide (e.lockOn = ⟨false, false⟩) &&
            decide (length ≤ 262144)))

/-- Two entries of the layout do not conflict: their extents are disjoint and at most one is the IMAGE range (R1). -/
def RangeEntry.agrees (a b : RangeEntry) : Bool :=
  !(a.image && b.image) &&
  match a.extent, b.extent with
  | some x, some y => disjoint x y
  | _, _ => true

/-- The law of the layout (R1). -/
def Layout.legal (l : Layout) (capacity : Nat) : Bool :=
  allRanges.all fun r => l[r].legal r capacity && allRanges.all fun q => decide (q = r) || l[r].agrees l[q]

/-- The values of the policy record's fields (R84). -/
def Policy.legal (p : Policy) : Bool :=
  decide (1 ≤ p.freeTries) && decide (p.freeTries ≤ 16) &&
  (decide (p.attemptLimit = 0) || (decide (p.freeTries < p.attemptLimit) && decide (p.attemptLimit ≤ 200))) &&
  decide (p.absenceLimit ≤ 250) && (decide (p.binding = .none) == p.digest.isNone)

/-- The values of the counters record's fields (R85). -/
def Counters.legal (c : Counters) : Bool := decide (c.attempts ≤ 255) && decide (c.absences ≤ 255)

/-- The values and the presence of the wipe record's fields (R86). -/
def WipeRecord.legal (w : WipeRecord) (capacity : Nat) : Bool :=
  (w.skipped.all fun n => decide (n ≤ capacity)) && (w.cursor.all fun n => decide (n ≤ capacity)) &&
  match w.phase with
  | .none => w.depth.isNone && w.keepOwner.isNone && w.cursor.isNone && (w.reason.isSome == w.skipped.isSome)
  | .purge => w.reason.isSome && w.depth.isSome && w.keepOwner.isSome && w.cursor.isNone && w.skipped.isNone
  | .sanitize => w.reason.isSome && w.depth.isSome && w.keepOwner.isSome && w.cursor.isSome && w.skipped.isSome

/-- A record as the scan reads it: its content when it is intact and its fields are legal (R91). -/
def Stored.read {α : Type} (r : Stored α) (legal : α → Bool) : Option α :=
  match r with
  | .intact c => if legal c then some c else none
  | .torn => none

/-! ## The scan (section 5.5) -/

/-- The repaired counters: one step short of every enabled limit (R92). -/
def repairedCounters (p : Policy) : Counters where
  attempts := if p.attemptLimit = 0 then p.freeTries else p.attemptLimit - 1
  absences := if p.absenceLimit = 0 then 0 else p.absenceLimit - 1

/-- The repaired wipe record: phase PURGE, reason RECOVERY, the policy's depth or MEDIA_AND_IMAGE when the policy is torn,
keep-owner clear (R93). -/
def repairedWipe (depth : Depth) (policyTorn : Bool) : WipeRecord :=
  ⟨.purge, some .recovery, some (if policyTorn then .mediaAndImage else depth), some false, none, none⟩

/-- The working copy of a credential slot as the scan sets it (R91, R94). -/
def scanCredential (st : Store) (i : SlotIndex) : CredentialCopy :=
  match st.credentials[i].read fun c => c.legal i with
  | some c => ⟨some c, false⟩
  | none => ⟨none, true⟩

/-- The policy's working copy as the scan sets it: the defaults when the record is torn (R91). -/
def scanPolicy (st : Store) : Policy := (st.policy.read Policy.legal).getD Policy.defaults

/-- The policy record is torn (R91). -/
def policyTorn (st : Store) : Bool := (st.policy.read Policy.legal).isNone

/-- The layout record is torn (R91). -/
def layoutTorn (st : Store) : Bool := (st.layout.read fun l => l.legal st.identity.capacity).isNone

/-- The counters record is torn (R92). -/
def countersTorn (st : Store) : Bool := (st.counters.read Counters.legal).isNone

/-- The wipe record is torn (R93). -/
def wipeTorn (st : Store) : Bool := (st.wipe.read fun w => w.legal st.identity.capacity).isNone

/-- The working copies as the scan sets them (R91 to R94). For a torn layout record the manual says that the copy holds entry 0
alone, with entries 1..15 undefined (R3, R91), and gives the sixteen generations no value: the model takes generation 0 for
each, from which a recovery wipe counts on (DESIGN CHOICE, notes/assumptions/39.md). -/
def scanCopies (st : Store) : Copies where
  credentials := Vector.ofFn (scanCredential st)
  layout := (st.layout.read fun l => l.legal st.identity.capacity).getD Layout.manufactured
  policy := scanPolicy st
  counters := (st.counters.read Counters.legal).getD (repairedCounters (scanPolicy st))
  wipe := (st.wipe.read fun w => w.legal st.identity.capacity).getD (repairedWipe (scanPolicy st).depth (policyTorn st))

/-- The scan's two results besides the wipe phase: whether a store fault exists, and whether the policy was torn
(R91, R143). -/
def scanResult (st : Store) : ScanResult where
  storeFault := (scanCredential st 0).corrupt || layoutTorn st || policyTorn st
  policyTorn := policyTorn st

/-- Requests a write when `c` holds. -/
def State.requestWriteIf (s : State) (b : Bool) (c : Content) (who : List Waiter) : State :=
  if b then s.requestWrite c who else s

/-- The number of repair writes the scan makes (R91). -/
def repairCount (st : Store) : Nat := (countersTorn st).toNat + (wipeTorn st).toNat

/-- The scan: every working copy is set, and the repairs are written, counters first and then wipe (R91). -/
def State.scanStore (s : State) : State :=
  let s1 := { s with copies := scanCopies s.store, scan := scanResult s.store, power := .scan (repairCount s.store) }
  let s2 := s1.requestWriteIf (countersTorn s.store) (.counters s1.copies.counters) [.sequence]
  s2.requestWriteIf (wipeTorn s.store) (.wipe s1.copies.wipe) [.sequence]

end Sys2Proof.Machine
end

