-- ==== Sys2Proof/Machine/Answers.lean ====
section
/-! DEFINITION. Machine/Answers.lean: how a request in service is answered and how it awaits something (sections 7.1 and
3.3). -/

namespace Sys2Proof.Machine

/-- The completion of a CONTROL capsule with its response envelope (R48, R57). -/
def controlCompletion (t : Tag) (st : Status) (code : Nat) (f : Response) : UpMessage :=
  .completion (Kind.code .control) (BitVec.ofNat 8 t.val) st 0 (some ⟨code, f⟩) none

/-- Hands out the completion of a request with its response envelope and makes its entry FREE (R48, R121). -/
def State.handOut (s : State) (t : Tag) (st : Status) (code : Nat) (f : Response) : State :=
  (s.sendUp (controlCompletion t st code f)).freeEntry t

/-- The request in service leaves the service place: its completion is handed out, or, after a link reset, its response
is discarded (R121, R123). -/
def State.answer (s : State) (st : Status) (f : Response) : State :=
  match s.service with
  | none => s
  | some v =>
      if v.discard then { s with service := none }
      else { s with service := none }.handOut v.tag st v.code f

/-- Answers the request in service with a status and no fields. -/
def State.answerPlain (s : State) (st : Status) : State := s.answer st .noFields

/-- The request in service moves to a stage. -/
def State.stage (s : State) (v : Service) (g : Stage) : State := { s with service := some { v with stage := g } }

/-- The request in service requests a record write and awaits it in a stage (R89). -/
def State.awaitWrite (s : State) (v : Service) (g : Stage) (c : Content) : State :=
  (s.stage v g).requestWrite c [.channel]

/-- The stage of the request in service. -/
def State.serviceStage (s : State) : Option Stage := s.service.map Service.stage

/-- A cipher self-test is running: the power-up sequence's or a SELF TEST's (R41). -/
def State.testRunning (s : State) : Bool :=
  decide (s.power = .selfTest) || decide (s.serviceStage = some .testing)

end Sys2Proof.Machine
end

