-- ==== Sys2Proof/Machine/Locks.lean ====
section
/-! DEFINITION. Machine/Locks.lean: loads of key slots, lock-on events, session ends and the enclosure LOCK policy
(chapter 4). -/

namespace Sys2Proof.Machine

/-! ## Loading (section 4.2) -/

/-- Loads the slot of a range with its key; its read-lock is cleared and its write-lock set to the WRITE_PROTECTED flag
(R64, R65). -/
def State.loadRange (s : State) (k : RangeKey) : State :=
  (s.setSlot k.range (KeySlot.loadedWith k.key k.generation)).setLocks k.range
    ⟨false, s.copies.layout[k.range].writeProtected⟩

/-- Loads the slot of each range of a list. -/
def State.loadRanges (s : State) (ks : List RangeKey) : State := ks.foldl State.loadRange s

/-- The load of BLANK: slot 0 with the global key at range 0's generation, range 0's locks both clear (R64). -/
def State.loadGlobal (s : State) (key : Key) : State :=
  (s.setSlot 0 (KeySlot.loadedWith key s.copies.layout[(0 : RangeIndex)].generation)).setLocks 0 ⟨false, false⟩

/-- Marks a credential slot CORRUPT in the working copy (R82). -/
def State.markCorrupt (s : State) (i : SlotIndex) : State :=
  { s with copies := { s.copies with
      credentials := s.copies.credentials.set i { s.copies.credentials[i] with corrupt := true } } }

/-- The global key that the device wrap in slot 0's working copy holds, unwrapped under the device key; none on a check
mismatch (R79, R107). -/
def State.deviceGlobalKey (s : State) : Option Key :=
  s.copies.credentials[(0 : SlotIndex)].record.bind fun c => c.wraps.head?.bind (unwrapKey s.store.identity.deviceKey)

/-- Reaches BLANK: the full view, and slot 0 loaded from the device wrap (R64, R167). A check mismatch marks slot 0
CORRUPT and enters FAULT with cause STORE instead, with no slot loaded (R107). -/
def State.reachBlank (s : State) : State :=
  match s.deviceGlobalKey with
  | some key => s.enterBlank.loadGlobal key
  | none => (s.markCorrupt 0).enterFault .store

/-! ## Lock-on events (section 4.5) -/

/-- The ranges of a view whose lock-on set holds an event (R69, R70). -/
def State.lockOnRanges (s : State) (v : View) (holds : LockOn → Bool) : List RangeIndex :=
  allRanges.filter fun r => v.shows r && holds s.copies.layout[r].lockOn

/-- A lock-on event: each range of the view whose lock-on set holds the event is both-locked, and RANGES_LOCKED is set
when at least one lock changed (R69, R70). -/
def State.lockOn (s : State) (v : View) (holds : LockOn → Bool) : State :=
  (s.bothLockAll (s.lockOnRanges v holds)).notifyIf
    ((s.lockOnRanges v holds).any fun r => decide (s.locks[r] ≠ Locks.both)) .rangesLocked

/-- The LOW_POWER lock-on, on the session view of OPEN or STAGED; in BLANK and LOCKED none applies (R70, R171, R174). -/
def State.lowPowerLockOn (s : State) : State :=
  match s.sessionAccess, s.sessionView with
  | .opened, some v | .staged, some v => s.lockOn v LockOn.lowPower
  | _, _ => s

/-- The LOW_POWER lock-on at the load event of an UNLOCK that reaches it in DORMANT; outside DORMANT nothing (R174, R181). -/
def State.asleepLockOn (s : State) : State := if s.access = .dormant then s.lowPowerLockOn else s

/-- The LINK_RESET lock-on, in OPEN (R69). -/
def State.linkResetLockOn (s : State) : State :=
  match s.view with
  | some v => s.lockOn v LockOn.linkReset
  | none => s

/-! ## Session ends (R74 to R76) -/

/-- Both-locks every range, drops the pending view and marks a session end pending (R74). -/
def State.markSessionEnd (s : State) : State :=
  { s.bothLockAll allRanges with pendingView := none, sessionEnd := true }

/-- A pending session end is ready to complete: every slot is EMPTY (R74). -/
def State.sessionEndReady (s : State) : Bool := s.sessionEnd && s.allSlotsEmpty

/-- The session end completes: the mark is cleared, the access state, or in DORMANT the resume state, becomes LOCKED, the
view is that of LOCKED, and a held END SESSION is answered GOOD (R74, R75). -/
def State.completeSessionEnd (s : State) : State :=
  let s' := { s with sessionEnd := false }.enterLocked
  if s'.serviceStage = some .holdEndSession then s'.answerPlain .good else s'

/-- The enclosure LOCK policy acts as END SESSION without a request, in OPEN and STAGED and in DORMANT with one of them as
resume state; elsewhere it has no effect (R76). -/
def State.enclosureLock (s : State) : State :=
  match s.sessionAccess with
  | .opened | .staged => s.markSessionEnd
  | _ => s

end Sys2Proof.Machine
end

