-- ==== Sys2Proof/Machine/Wipe.lean ====
section
/-! DEFINITION. Machine/Wipe.lean: wipe triggers, the purge, the record rewrites, the sanitize, the finish and the resume
of a recorded wipe (chapter 8). -/

namespace Sys2Proof.Machine

/-! ## The purge (R146) -/

/-- The effect of a purge on the request in service (R124, R146): a held LOCK, END SESSION, SELF TEST or ERASE RANGE is
answered WIPED at once; a request awaiting a write, or a running test, is to be answered WIPED when that ends. -/
def State.strikeService (s : State) : State :=
  match s.service with
  | none => s
  | some v =>
      match v.stage with
      | .holdLock _ | .holdEndSession | .holdErase _ | .holdTest => s.answerPlain .wiped
      | _ => { s with service := some { v with struck := true } }

/-- The purge at the Command Table and the Key Slot Bank: traffic aborted, slots emptied, ranges both-locked, and a pending
session end cleared (R68). -/
def State.purgeKeys (s : State) : State := { s.abortTable.emptySlots with sessionEnd := false }

/-- The purge at the Control Unit and the Range Map: the back-off stopped, the latch cleared, WIPE_STARTED set, and WIPING
entered (R146). -/
def State.purgeUnit (s : State) : State :=
  { ({ s with backoff := none, latch := false }.notify .wipeStarted).enterWiping with faultCause := none }

/-- The purge, as one event (R68, R146). -/
def State.purge (s : State) : State := s.purgeKeys.strikeService.purgeUnit

/-! ## The wipe record (R147, R149, R150, R156) -/

/-- The wipe record of phase PURGE (R147). -/
def WipeJob.purgeRecord (j : WipeJob) : WipeRecord :=
  ⟨.purge, some j.reason, some j.depth, some j.keepOwner, none, none⟩

/-- The wipe record of phase SANITIZE with a cursor (R149, R156). -/
def WipeJob.sanitizeRecord (j : WipeJob) (cursor : Nat) : WipeRecord :=
  ⟨.sanitize, some j.reason, some j.depth, some j.keepOwner, some cursor, some j.skipped⟩

/-- The wipe record of a wipe finished (R150). -/
def WipeJob.doneRecord (j : WipeJob) : WipeRecord := ⟨.none, some j.reason, none, none, none, some j.skipped⟩

/-- The keep-owner decision from the working copies: the final flag set, and slot 0 of kind OWNER and not marked CORRUPT
(R147). -/
def State.keepOwner (s : State) : Bool :=
  s.copies.policy.final && !s.copies.credentials[(0 : SlotIndex)].corrupt &&
    s.copies.credentials[(0 : SlotIndex)].record.any fun c => decide (c.kind = .owner)

/-- The Wipe Engine requests a record write and awaits it in a stage (R89). -/
def State.engineWrite (s : State) (j : WipeJob) (g : WipeStage) (c : Content) : State :=
  { s with engine := { s.engine with job := some { j with stage := g } } }.requestWrite c [.engine]

/-- A wipe trigger (R141): ignored while a wipe is in progress; otherwise the purge is taken and the wipe is recorded
(R146, R147). -/
def State.trigger (s : State) (r : Reason) (depth : Depth) : State :=
  if s.engine.job.isSome then s
  else
    let j : WipeJob := ⟨.purgeWrite, r, depth, s.keepOwner, 0,
      decide (s.access = .fault) && decide (s.faultCause = some .selfTest)⟩
    s.purge.engineWrite j .purgeWrite (.wipe j.purgeRecord)

/-- A wipe trigger with the depth of the policy's working copy (R147). -/
def State.triggerWipe (s : State) (r : Reason) : State := s.trigger r s.copies.policy.depth

/-! ## The record rewrites (R148) -/

/-- An entry of the layout as a wipe rewrites it: its generation incremented; the IMAGE range kept when `keepImage`;
entry 0 defined; every other entry undefined with flags and lock-on set cleared (R148). -/
def RangeEntry.wiped (e : RangeEntry) (r : RangeIndex) (keepImage : Bool) : RangeEntry :=
  if r = 0 then { RangeEntry.global with generation := e.generation + 1 }
  else if keepImage && e.defined && e.image then { e with generation := e.generation + 1 }
  else { RangeEntry.undefined with generation := e.generation + 1 }

/-- The layout as a wipe rewrites it (R148). -/
def WipeJob.layout (j : WipeJob) (l : Layout) : Layout :=
  Vector.ofFn fun r : RangeIndex => l[r].wiped r (j.keepOwner && decide (j.depth ≠ .mediaAndImage))

/-- Slot 0 as a wipe that keeps the owner rewrites it: the same salt and verifier, an empty wrap list (R148). -/
def keptOwner (c : CredentialCopy) : Credential :=
  { (c.record.getD Credential.empty) with kind := .owner, state := some .active, wraps := [] }

/-- Slot 0 of kind BLANK with a device wrap of a new global key at range 0's generation (R148, R150). -/
def State.newBlankSlot (s : State) : Credential :=
  .blank (wrapKey s.store.identity.deviceKey 0 s.copies.layout[(0 : RangeIndex)].generation s.newKey)

/-- The layout rewrite, the first of the record rewrites (R148). -/
def State.rewriteLayout (s : State) (j : WipeJob) : State :=
  s.engineWrite j .layoutWrite (.layout (j.layout s.copies.layout))

/-- The rewrite of slot 0 (R148). -/
def State.rewriteOwner (s : State) (j : WipeJob) : State :=
  if j.keepOwner then s.engineWrite j .ownerWrite (.credential 0 (keptOwner s.copies.credentials[(0 : SlotIndex)]))
  else s.drawn.engineWrite j .ownerWrite (.credential 0 s.newBlankSlot)

/-- The rewrite of a user slot as EMPTY (R148). -/
def State.rewriteUser (s : State) (j : WipeJob) (i : SlotIndex) : State :=
  s.engineWrite j (.userWrite i) (.credential i Credential.empty)

/-! ## The finish (R150) -/

/-- The write of phase NONE, the last of a wipe (R150). -/
def State.writeDone (s : State) (j : WipeJob) : State := s.engineWrite j .finishNone (.wipe j.doneRecord)

/-- The finish: with keep-owner clear a new global key and slot 0 first, then the record of phase NONE. In DORMANT it
waits for POWER EXIT (R150, R161). -/
def State.beginFinish (s : State) (j : WipeJob) : State :=
  if s.access = .dormant then { s with engine := { s.engine with job := some { j with stage := .finishWait } } }
  else if j.keepOwner then s.writeDone j
  else s.drawn.engineWrite j .finishOwner (.credential 0 s.newBlankSlot)

/-- The completion of the NONE write: the wipe is no longer in progress, WIPE_DONE is set and the access state is entered
(R150). -/
def State.endWipe (s : State) (j : WipeJob) : State :=
  let s' := { s with engine := ⟨none, none⟩ }.notify .wipeDone
  if j.fromSelfTestFault then s'.enterFault .selfTest
  else if j.keepOwner then s'.enterLocked
  else s'.reachBlank

/-! ## The sanitize (section 8.4) -/

/-- The excluded range: the IMAGE extent, when keep-owner is set and the depth is MEDIA (R153). -/
def State.excluded (s : State) (j : WipeJob) : Option Extent :=
  if j.keepOwner ∧ j.depth = .media then s.copies.layout.imageExtent else none

/-- The issue pointer after the jump over the excluded range (R153). -/
def jumpOver (x : Option Extent) (at_ : Nat) : Nat :=
  match x with
  | some e => if e.start ≤ at_ ∧ at_ < e.start + e.length then e.start + e.length else at_
  | none => at_

/-- The length of the step at the issue pointer: 1024 sectors, clipped at M and at the start of the excluded range
(R153). -/
def stepLength (capacity : Nat) (x : Option Extent) (at_ : Nat) : Nat :=
  let n := min 1024 (capacity - at_)
  match x with
  | some e => if at_ < e.start then min n (e.start - at_) else n
  | none => n

/-- Sends a step's DEALLOCATE on its sub-tag (R154, R155). -/
def State.sendStep (s : State) (p : SanitizeStep) : State :=
  { s with outstanding := insertNat p.subTag s.outstanding }.sendDown (.command .deallocate p.subTag p.start p.length)

/-- Makes and sends the next step on a free sub-tag while the issue pointer is below M (R153, R154). -/
def State.issueStep (j : WipeJob) (s : State) (subTag : Nat) : State :=
  match s.engine.sanitize with
  | none => s
  | some z =>
      if z.issue < s.capacity then
        let p : SanitizeStep := ⟨z.issue, stepLength s.capacity (s.excluded j) z.issue, subTag, .issued, false⟩
        let z' : Sanitize := { z with
          issue := jumpOver (s.excluded j) (p.start + p.length)
          steps := z.steps.filter (fun q => decide (q.subTag ≠ subTag)) ++ [p] }
        { s with engine := { s.engine with sanitize := some z' } }.sendStep p
      else s

/-- The starts of the ISSUED steps. -/
def Sanitize.issuedStarts (z : Sanitize) : List Nat :=
  (z.steps.filter fun p => decide (p.state = .issued)).map SanitizeStep.start

/-- The frontier as the steps and the issue pointer give it: the lowest start of an ISSUED step, or the issue pointer
(R156). -/
def Sanitize.reached (z : Sanitize) : Nat := z.issuedStarts.foldl min z.issue

/-- When the frontier has risen it is taken, and a write of the wipe record with it as cursor is requested and not awaited
(R156). -/
def State.advanceFrontier (s : State) (j : WipeJob) : State :=
  match s.engine.sanitize with
  | none => s
  | some z =>
      if z.frontier < z.reached then
        { s with engine := { s.engine with sanitize := some { z with frontier := z.reached } } }.requestWrite
          (.wipe (j.sanitizeRecord z.reached)) []
      else s

/-- The sanitize ends when the issue pointer stands at M and no step is ISSUED; the finish begins (R157). -/
def State.endSanitizeIfDone (s : State) (j : WipeJob) : State :=
  match s.engine.sanitize with
  | none => s
  | some z => if s.capacity ≤ z.issue ∧ z.issuedStarts = [] then s.beginFinish j else s

/-- After a change of the steps: the frontier, then the end of the sanitize (R156, R157). -/
def State.settleSanitize (s : State) (j : WipeJob) : State := (s.advanceFrontier j).endSanitizeIfDone j

/-- The sub-tags of the Wipe Engine (R49). -/
def sanitizeSubTags : List Nat := [64, 65, 66, 67]

/-- Starts the sanitize at a cursor with a skipped count: the issue pointer at the cursor, the jump, and a step on each of
64..67 (R154, R159). In DORMANT it waits for POWER EXIT (R149, R161). -/
def State.startSanitize (s : State) (j : WipeJob) (cursor : Nat) : State :=
  if s.access = .dormant then { s with engine := { s.engine with job := some { j with stage := .sanitizeWait } } }
  else
    let j' := { j with stage := .sanitizing }
    let z : Sanitize := ⟨jumpOver (s.excluded j) cursor, [], cursor⟩
    (sanitizeSubTags.foldl (State.issueStep j') { s with engine := ⟨some j', some z⟩ }).settleSanitize j'

/-- Rewrites the step on a sub-tag. -/
def Sanitize.updateStep (z : Sanitize) (subTag : Nat) (f : SanitizeStep → SanitizeStep) : Sanitize :=
  { z with steps := z.steps.map fun p => if p.subTag = subTag then f p else p }

/-- Writes the sanitize and the wipe in progress. -/
def State.setSanitize (s : State) (j : WipeJob) (z : Sanitize) : State := { s with engine := ⟨some j, some z⟩ }

/-- A step becomes DONE: its sub-tag takes the next step, and the frontier and the end are looked at (R154, R155). -/
def State.stepDone (s : State) (j : WipeJob) (z : Sanitize) (p : SanitizeStep) : State :=
  ((s.setSanitize j (z.updateStep p.subTag fun q => { q with state := .done })).issueStep j p.subTag).settleSanitize j

/-- A downstream completion on one of 64..67 (R155). -/
def State.stepCompletion (s : State) (subTag : Nat) (st : Status) : State :=
  match s.engine.job, s.engine.sanitize with
  | some j, some z =>
      match z.steps.find? fun p => decide (p.subTag = subTag) && decide (p.state = .issued) with
      | none => s
      | some p =>
          match st with
          | .good => s.stepDone j z p
          | .aborted => s.sendStep p
          | _ =>
              if p.mediaError then s.stepDone { j with skipped := min s.capacity (j.skipped + p.length) } z p
              else (s.setSanitize j (z.updateStep subTag fun q => { q with mediaError := true })).sendStep p
  | _, _ => s

/-- The progress figure of phase SANITIZE for a frontier (R158). -/
def progressOf (capacity : Nat) (x : Option Extent) (frontier : Nat) : Nat :=
  let e := (x.map Extent.length).getD 0
  let b := if x.any fun r => decide (r.start + r.length ≤ frontier) then e else 0
  100 * (frontier - b) / (capacity - e)

/-! ## The sequence of a wipe (R148 to R150) and its resume (R159, R161) -/

/-- The write the Wipe Engine awaited has completed: the wipe goes on to its next write or stage. -/
def State.engineTold (s : State) : State :=
  match s.engine.job with
  | none => s
  | some j =>
      match j.stage with
      | .purgeWrite => s.rewriteLayout j
      | .layoutWrite => s.rewriteOwner j
      | .ownerWrite =>
          if j.keepOwner then s.rewriteUser j 1 else s.engineWrite j .policyWrite (.policy Policy.defaults)
      | .policyWrite => s.rewriteUser j 1
      | .userWrite i =>
          if h : i.val + 1 < 8 then s.rewriteUser j ⟨i.val + 1, h⟩
          else s.engineWrite j .countersWrite (.counters Counters.zero)
      | .countersWrite =>
          if j.depth = .keys then s.beginFinish j else s.engineWrite j .sanitizeWrite (.wipe (j.sanitizeRecord 0))
      | .sanitizeWrite => s.startSanitize j 0
      | .finishOwner => s.writeDone j
      | .finishNone => s.endWipe j
      | .recorded | .sanitizeWait | .sanitizing | .finishWait => s

/-- The wipe that the wipe record's working copy holds, if its phase is not NONE (R141, R159, R166). -/
def WipeRecord.job (w : WipeRecord) : Option WipeJob :=
  if w.phase = .none then none
  else some ⟨.recorded, w.reason.getD .recovery, w.depth.getD .mediaAndImage, w.keepOwner.getD false,
    w.skipped.getD 0, false⟩

/-- Resumes a recorded wipe in WIPING: in phase PURGE keep-owner is decided anew, the record rewritten when it differs, and
the rewrites made from the first; in phase SANITIZE the sanitize starts at the persisted cursor (R159). -/
def State.resumeWipe (s : State) : State :=
  match s.engine.job with
  | none => s
  | some j =>
      match s.copies.wipe.phase with
      | .sanitize => s.startSanitize j (s.copies.wipe.cursor.getD 0)
      | _ =>
          let j' := { j with keepOwner := s.keepOwner }
          if s.keepOwner = j.keepOwner then s.rewriteLayout j'
          else s.engineWrite j' .purgeWrite (.wipe j'.purgeRecord)

/-- On waking into WIPING the Wipe Engine goes on from where it waited in DORMANT (R161, R175). -/
def State.wakeEngine (s : State) : State :=
  match s.engine.job with
  | none => s
  | some j =>
      match j.stage with
      | .sanitizeWait => s.startSanitize j 0
      | .finishWait => s.beginFinish j
      | _ => s

end Sys2Proof.Machine
end

