-- ==== Sys2Proof/Machine/Reports.lean ====
section
/-! DEFINITION. Machine/Reports.lean: what QUERY STATE, QUERY RANGES and QUERY CREDENTIALS report (section 7.3). -/

namespace Sys2Proof.Machine

/-- The reason QUERY STATE reports: in phase NONE, which a wipe just triggered leaves as it was until its record's write has
completed, that of the last wipe finished; else that of the wipe in progress (R86, R128). -/
def State.reportedReason (s : State) : Option Reason :=
  match s.copies.wipe.phase, s.engine.job with
  | .purge, some j | .sanitize, some j => some j.reason
  | _, _ => s.copies.wipe.reason

/-- The frontier by which progress is reported: the Wipe Engine's, or the persisted cursor while no sanitize has started
(R156, R158, R159). -/
def State.reportedFrontier (s : State) : Nat :=
  match s.engine.sanitize with
  | some z => z.frontier
  | none => s.copies.wipe.cursor.getD 0

/-- The progress figure: the Wipe Engine's in phase SANITIZE, 0 in NONE and PURGE (R128, R158). -/
def State.reportedProgress (s : State) : Nat :=
  match s.copies.wipe.phase, s.engine.job with
  | .sanitize, some j => progressOf s.capacity (s.excluded j) s.reportedFrontier
  | _, _ => 0

/-- The skipped count reported: the current count in SANITIZE, 0 in PURGE, that of the last wipe finished in NONE, 0 if
none (R128). -/
def State.reportedSkipped (s : State) : Nat :=
  match s.copies.wipe.phase, s.engine.job with
  | .sanitize, some j => j.skipped
  | .none, _ => s.copies.wipe.skipped.getD 0
  | _, _ => 0

/-- The response of QUERY STATE (R128). -/
def State.report (s : State) : StateReport where
  access := s.access
  provisioning := s.provisioning
  faultCause := if s.access = .fault then s.faultCause else none
  attempts := s.copies.counters.attempts
  backoff := s.backoff.getD 0
  phase := s.copies.wipe.phase
  reason := s.reportedReason
  progress := s.reportedProgress
  skipped := s.reportedSkipped
  capacity := s.viewCapacity
  platform := s.platform
  level := s.level
  notices := s.notices.names

/-- The locks reported for an entry of the current view: those the lock check applies to it (R131). -/
def State.reportedLocks (s : State) (k : ViewKind) (e : ViewEntry) : Locks :=
  match k with
  | .image => ⟨false, !(decide (s.access = .locked) && s.latch)⟩
  | _ => s.locks[e.range]

/-- The response of QUERY RANGES without authorization (R131). -/
def State.viewReport (s : State) : List ViewReport :=
  match s.view with
  | none => []
  | some v => v.entries.map fun e =>
      ⟨e.visible, e.length, (s.reportedLocks v.kind e).readLock, (s.reportedLocks v.kind e).writeLock⟩

/-- One record of the owner form of QUERY RANGES (R132). -/
def State.rangeReport (s : State) (r : RangeIndex) : RangeReport where
  index := r
  defined := s.copies.layout[r].defined
  extent := s.copies.layout[r].extent
  concealable := s.copies.layout[r].concealable
  image := s.copies.layout[r].image
  writeProtected := s.copies.layout[r].writeProtected
  lockOn := s.copies.layout[r].lockOn
  generation := s.copies.layout[r].generation
  readLock := s.locks[r].readLock
  writeLock := s.locks[r].writeLock
  slotState := s.slots[r].state
  slotGeneration := s.slots[r].generation
  uses := s.slots[r].uses
  inView := shownIn s.view r

/-- The response of the owner form of QUERY RANGES (R132). -/
def State.layoutReport (s : State) : Response := .layout s.capacity s.viewCapacity (allRanges.map s.rangeReport)

/-- The state reported for an intact credential record (R133). -/
def CredentialState.reported : CredentialState → ReportedState
  | .active => .active
  | .disabled => .disabled

/-- One record of QUERY CREDENTIALS (R133). -/
def Layout.credentialReport (l : Layout) (c : CredentialCopy) : CredentialReport :=
  match c.record with
  | none => ⟨none, some .corrupt, []⟩
  | some r =>
      if c.corrupt then ⟨some r.kind, some .corrupt, []⟩
      else ⟨some r.kind, r.state.map CredentialState.reported, (l.currentWraps r.wraps).map Wrap.range⟩

/-- The response of QUERY CREDENTIALS (R133). -/
def State.credentialsReport (s : State) : Response :=
  .credentials (allSlots.map fun i => s.copies.layout.credentialReport s.copies.credentials[i])

end Sys2Proof.Machine
end

