-- ==== Sys2Proof/Machine/Gate.lean ====
section
/-! DEFINITION. Machine/Gate.lean: the authorization gate, its attempt accounting and back-off, and the kinds each request
allows (section 6.1, R151). -/

namespace Sys2Proof.Machine

/-- The working copy of a credential slot's record; a slot without one holds no credential. -/
def State.credential (s : State) (i : SlotIndex) : Credential :=
  (s.copies.credentials[i].record).getD Credential.empty

/-- A saturating increment at 255 (R85). -/
def bump (n : Nat) : Nat := min 255 (n + 1)

/-- Stages 1 to 3: the refusal that moves no count, if any (R99). -/
def State.gateRefusal (s : State) (r : Request) (i : SlotIndex) : Option Status :=
  if s.backoff.isSome then some .backoff
  else if (match r with | .unlock _ => true | _ => false) && decide (s.copies.policy.binding ≠ .none) &&
      decide (s.platform ≠ .matched) then some .platform
  else if s.copies.credentials[i].corrupt then some .corrupt
  else none

/-- The gate up to stage 4: refused, or the raised attempt count is being written and awaited (R99, R100). -/
def State.enterGate (s : State) (v : Service) (i : SlotIndex) : State :=
  match s.gateRefusal v.request i with
  | some st => s.answerPlain st
  | none =>
      s.awaitWrite v .gateCount (.counters { s.copies.counters with attempts := bump s.copies.counters.attempts })

/-- Stage 5: the presented secret verifies against the slot (R101). A slot of kind BLANK or EMPTY, or DISABLED, verifies
nothing. -/
def Credential.verifies (c : Credential) (secret : Secret) : Bool :=
  match c.kind, c.state, c.salt, c.verifier with
  | .owner, some .active, some salt, some verifier | .user, some .active, some salt, some verifier
  | .wipe, some .active, some salt, some verifier => decide (Config.secretDigest salt secret = verifier)
  | _, _, _, _ => false

/-- The back-off period for a count above F, in seconds (R103). -/
def backoffPeriod (count freeTries : Nat) : Nat := 2 ^ min (count - freeTries - 1) 10

/-- Starts the back-off timer for the attempt count when it exceeds F (R103). -/
def State.startBackoff (s : State) : State :=
  if s.copies.policy.freeTries < s.copies.counters.attempts then
    { s with backoff := some (backoffPeriod s.copies.counters.attempts s.copies.policy.freeTries) }
  else s

/-- The attempt count has reached a nonzero limit L (R102). -/
def State.attemptLimitReached (s : State) : Bool :=
  decide (s.copies.policy.attemptLimit ≠ 0) && decide (s.copies.policy.attemptLimit ≤ s.copies.counters.attempts)

/-- Stage 6: AUTH_FAILED is handed out, then a wipe is triggered at L, or the back-off starts above F (R102). -/
def State.gateFailed (s : State) : State :=
  let s' := s.answerPlain .authFailed
  if s.attemptLimitReached then s'.triggerWipe .attempts else s'.startBackoff

/-- Stage 7: both counts are set to 0 and written (R104). -/
def State.gatePassed (s : State) (v : Service) : State := s.awaitWrite v .gateReset (.counters Counters.zero)

/-- Stages 5 to 7, at the completion of the stage 4 write (R101 to R104). -/
def State.gateVerify (s : State) (v : Service) (i : SlotIndex) (secret : Secret) : State :=
  if (s.credential i).verifies secret then s.gatePassed v else s.gateFailed

/-- Slot 0 is of kind OWNER and holds no current wrap for range 0 (R151). -/
def State.lacksGlobalWrap (s : State) : Bool :=
  decide ((s.credential 0).kind = .owner) && !s.copies.layout.holdsCurrent (s.credential 0).wraps 0

/-- The owner record with a wrap of a new global key added (R151). -/
def State.ownerWithGlobalWrap (s : State) (secret : Secret) : Credential :=
  let c := s.credential 0
  let w := wrapKey (c.wrappingKey secret) 0 s.copies.layout[(0 : RangeIndex)].generation s.newKey
  { c with wraps := putWrap w (s.copies.layout.currentWraps c.wraps) }

/-- The credential kinds a request allows after the gate (section 7.9); WIPE at UNLOCK is the duress case (R111). -/
def requestAllows : Request → CredentialKind → Bool
  | .unlock _, k => decide (k = .owner) || decide (k = .user) || decide (k = .wipe)
  | .endSession, k => decide (k = .owner) || decide (k = .user) || decide (k = .wipe)
  | .changeSecret _, k | .lock _, k | .setLocks _, k => decide (k = .owner) || decide (k = .user)
  | .wipe, k => decide (k = .owner) || decide (k = .wipe)
  | _, k => decide (k = .owner)

end Sys2Proof.Machine
end

