-- ==== Sys2Proof/Machine/Requests.lean ====
section
/-! DEFINITION. Machine/Requests.lean: the own tests and effect of each control request, once the envelope, the access
state, the gate and the kind test have let it through (chapters 1, 4, 6, 7 and 8). -/

namespace Sys2Proof.Machine

/-! ## Field codes (R60) -/

/-- Enclosure policy codes (R60). -/
def enclosureOf (b : Byte) : Option EnclosurePolicy :=
  if b = 0 then some .ignore else if b = 1 then some .lock else if b = 2 then some .wipe else none

/-- Wipe depth codes (R60). -/
def depthOf (b : Byte) : Option Depth :=
  if b = 0 then some .keys else if b = 1 then some .media else if b = 2 then some .mediaAndImage else none

/-- Binding policy codes (R60). -/
def bindingOf (b : Byte) : Option BindingPolicy :=
  if b = 0 then some .none else if b = 1 then some .deny else if b = 2 then some .wipe else none

/-- Lock codes: 0 clear, 1 set (R60). -/
def lockOf (b : Byte) : Option Bool := if b = 0 then some false else if b = 1 then some true else none

/-! ## Requests without authorization -/

/-- QUERY STATE: the response is formed, the notice set emptied, the attention enable turned off, and the completion
handed out, in this order (R129). -/
def State.serveQueryState (s : State) : State :=
  { s with notices := NoticeSet.empty, attention := false }.answer .good (.state s.report)

/-- QUERY RANGES without authorization (R131). -/
def State.serveQueryRanges (s : State) : State := s.answer .good (.viewEntries s.viewReport)

/-- SET ATTENTION (R130). -/
def State.serveSetAttention (s : State) : State := { s with attention := true }.answerPlain .good

/-- SELF TEST is held until no entry is FORWARDED (R139). -/
def State.serveSelfTest (s : State) (v : Service) : State := s.stage v .holdTest

/-- PRESENT PLATFORM (R113). -/
def State.servePresentPlatform (s : State) (token : Token) : State :=
  if s.presented then s.answerPlain .wrongState
  else
    let s1 := { s with presented := true }
    if s.copies.policy.binding = .none ∨ s.copies.policy.digest = some (Config.tokenDigest token) then
      { s1 with platform := .matched }.answer .good (.platform .matched)
    else if s.copies.policy.binding = .deny then
      { s1 with platform := .mismatched }.answer .good (.platform .mismatched)
    else
      ({ s1 with platform := .mismatched }.answerPlain .wiped).triggerWipe .platform

/-- TAKE OWNERSHIP: slot 0 as OWNER with a wrap of the loaded global key, written and awaited (R114). -/
def State.serveTakeOwnership (s : State) (v : Service) (newSecret : Secret) : State :=
  let kwk := Config.wrappingKey newSecret s.newSalt
  let wraps := s.slots[(0 : RangeIndex)].key.toList.map
    (wrapKey kwk 0 s.copies.layout[(0 : RangeIndex)].generation)
  s.drawn.awaitWrite v .takeOwnership
    (.credential 0 ⟨.owner, some .active, some s.newSalt, some (Config.secretDigest s.newSalt newSecret), wraps⟩)

/-- TAKE OWNERSHIP at its write's completion: OPEN, the view and slot 0 kept; the answer is the current view's capacity
(R114). -/
def State.ownershipTaken (s : State) : State := (s.enter .opened).answer .good (.capacity s.viewCapacity)

/-! ## UNLOCK (section 6.3) -/

/-- The current wraps of a credential slot unwrapped under a secret; none on a check mismatch (R107). -/
def State.unwrapCurrent (s : State) (i : SlotIndex) (secret : Secret) : Option (List RangeKey) :=
  unwrapAll ((s.credential i).wrappingKey secret) (s.copies.layout.currentWraps (s.credential i).wraps)

/-- A check mismatch: the slot is marked CORRUPT and the answer is CORRUPT (R107). -/
def State.mismatch (s : State) (i : SlotIndex) : State := (s.markCorrupt i).answerPlain .corrupt

/-- The load event of an UNLOCK served in LOCKED: every range both-locked but those loaded, and the open view handed over,
current with the state OPEN (NOW) or pending with the state STAGED (AT_LINK_RESET). In DORMANT the resume state is set and
the LOW_POWER lock-on applied (R13, R64, R109, R174). -/
def State.unlockLoad (s : State) (view : View) (keys : List RangeKey) (now : Bool) : State :=
  let s1 := { s with locks := Vector.replicate 16 Locks.both }.loadRanges keys
  if now then ({ s1.enter .opened with view := some view, pendingView := none } : State).asleepLockOn
  else ({ s1.enter .staged with pendingView := some view } : State).asleepLockOn

/-- The end of an UNLOCK served in LOCKED. With handover AT_LINK_RESET a link reset may come between the load, which has stored
the pending view, and the hand-out of the response, which it then discards (R14): whether the response follows the load so is
a free value (notes/assumptions/45.md). -/
def State.unlockAnswer (s : State) (v : Service) (now : Bool) (f : Response) : State :=
  if now || v.discard then s.answer .good f
  else if Config.answerFollows s.draws then s.drawn.stage v (.answering f)
  else s.drawn.answer .good f

/-- UNLOCK served in LOCKED (R108, R109). -/
def State.unlockLocked (s : State) (v : Service) (i : SlotIndex) (secret : Secret) (handover : Byte) : State :=
  if handover ≠ 0 ∧ handover ≠ 1 then s.answerPlain .invalid
  else
    match s.unwrapCurrent i secret with
    | none => s.mismatch i
    | some keys =>
        let view := s.copies.layout.openView s.capacity (s.credential i).wraps
        let loaded := keys.filter fun k => view.shows k.range
        (s.unlockLoad view loaded (decide (handover = 0))).unlockAnswer v (decide (handover = 0))
          (.unlocked view.capacity loaded.length 0)

/-- The ranges of the current view that a list of keys is for and whose slot is in a state (R65). -/
def State.reloadable (s : State) (keys : List RangeKey) (st : SlotState) : List RangeKey :=
  keys.filter fun k => shownIn s.view k.range && decide (s.slots[k.range].state = st)

/-- UNLOCK served in OPEN: EMPTY slots of the current view's ranges are loaded, DRAINING ones skipped (R65, R110). When a POWER
ENTER's hold has ended meanwhile, the load is made in DORMANT and its ranges that hold LOW_POWER are both-locked and emptied
again at the same event, so that they need a further UNLOCK after POWER EXIT; the answer counts them as loaded (R181; DEDUCED,
notes/assumptions/29.md). When a POWER EXIT too has come meanwhile, the load is made in OPEN and no lock-on follows it (DESIGN
CHOICE, notes/assumptions/48.md). A session end that became pending, or completed, while the request was at the gate refuses it
WRONG_STATE (DESIGN CHOICE, notes/assumptions/14.md). -/
def State.unlockOpen (s : State) (i : SlotIndex) (secret : Secret) : State :=
  if s.sessionEnd || decide (s.sessionAccess ≠ .opened) then s.answerPlain .wrongState
  else
    match s.unwrapCurrent i secret with
    | none => s.mismatch i
    | some keys =>
        (s.loadRanges (s.reloadable keys .empty)).asleepLockOn.answer .good
          (.unlocked s.viewCapacity (s.reloadable keys .empty).length (s.reloadable keys .draining).length)

/-- The duress case: answered WIPED, and a wipe is triggered with reason DURESS (R111). -/
def State.duress (s : State) : State := (s.answerPlain .wiped).triggerWipe .duress

/-- UNLOCK after its gate and kind test (R108 to R111). -/
def State.serveUnlock (s : State) (v : Service) (i : SlotIndex) (secret : Secret) (handover : Byte) : State :=
  if (s.credential i).kind = .wipe then s.duress
  else if v.servedIn = .locked then s.unlockLocked v i secret handover
  else s.unlockOpen i secret

/-! ## Credentials (section 6.5) -/

/-- The kind SET CREDENTIAL writes (R60, R115). -/
def targetKindOf (b : Byte) : Option CredentialKind :=
  if b = 1 then some .user else if b = 2 then some .wipe else if b = 3 then some .empty else none

/-- The state SET CREDENTIAL writes (R60, R115). -/
def targetStateOf (b : Byte) : Option CredentialState :=
  if b = 0 then some .active else if b = 1 then some .disabled else none

/-- The reveal list taken: in range order, without duplicates, and only defined non-IMAGE ranges for which the owner holds
a current wrap; empty for WIPE and EMPTY (R115). -/
def State.takenReveal (s : State) (kind : CredentialKind) (reveal : List Byte) : List RangeIndex :=
  if kind = .user then
    allRanges.filter fun r => (reveal.filterMap rangeOf).contains r && s.copies.layout[r].defined &&
      !s.copies.layout[r].image && s.copies.layout.holdsCurrent (s.credential 0).wraps r
  else []

/-- The record SET CREDENTIAL writes for kind USER or WIPE (R116). -/
def State.newCredential (s : State) (kind : CredentialKind) (state : CredentialState) (secret : Secret)
    (keys : List RangeKey) : Credential where
  kind := kind
  state := some state
  salt := some s.newSalt
  verifier := some (Config.secretDigest s.newSalt secret)
  wraps := keys.map fun k =>
    wrapKey (Config.wrappingKey secret s.newSalt) k.range s.copies.layout[k.range].generation k.key

/-- SET CREDENTIAL after its gate and kind test (R115, R116). -/
def State.serveSetCredential (s : State) (v : Service) (ownerSecret : Secret) (target kind state : Byte)
    (secret : Secret) (reveal : List Byte) : State :=
  match targetKindOf kind, targetStateOf state with
  | some k, some st =>
      if h : 1 ≤ target.toNat ∧ target.toNat < 8 then
        if 16 < reveal.length ∨ reveal.any (fun b => (rangeOf b).isNone) then s.answerPlain .invalid
        else
          let i : SlotIndex := ⟨target.toNat, h.2⟩
          let taken := s.takenReveal k reveal
          if k = .empty then s.awaitWrite v (.lastWrite (.ranges taken)) (.credential i Credential.empty)
          else
            match unwrapAll ((s.credential 0).wrappingKey ownerSecret)
              ((s.copies.layout.currentWraps (s.credential 0).wraps).filter fun w => taken.contains w.range) with
            | none => s.mismatch 0
            | some keys =>
                s.drawn.awaitWrite v (.lastWrite (.ranges taken)) (.credential i (s.newCredential k st secret keys))
      else s.answerPlain .invalid
  | _, _ => s.answerPlain .invalid

/-- The record CHANGE SECRET writes: kind and state unchanged, a new salt and verifier, and each recovered key wrapped again
at the generation its old wrap held (R117). -/
def State.rewrapped (s : State) (c : Credential) (newSecret : Secret) (keys : List RangeKey) : Credential where
  kind := c.kind
  state := c.state
  salt := some s.newSalt
  verifier := some (Config.secretDigest s.newSalt newSecret)
  wraps := keys.map fun k => wrapKey (Config.wrappingKey newSecret s.newSalt) k.range k.generation k.key

/-- CHANGE SECRET after its gate and kind test (R117). -/
def State.serveChangeSecret (s : State) (v : Service) (i : SlotIndex) (secret newSecret : Secret) : State :=
  match s.unwrapCurrent i secret with
  | none => s.mismatch i
  | some keys =>
      s.drawn.awaitWrite v (.lastWrite .noFields) (.credential i (s.rewrapped (s.credential i) newSecret keys))

/-! ## Locks (section 4.6) -/

/-- A credential reveals the range an index byte names: its wrap list holds a current wrap for it (R71). An index above 15 names
no range; the manual does not say whether the test for a range not revealed counts it or leaves it to the INVALID test that
follows, and the model counts it, so that a USER who sends one is answered NOT_PERMITTED (DESIGN CHOICE,
notes/assumptions/44.md). -/
def State.revealsByte (s : State) (i : SlotIndex) (b : Byte) : Bool :=
  (rangeOf b).any fun r => s.copies.layout.holdsCurrent (s.credential i).wraps r

/-- A verified USER names a range it does not reveal (R71, R73). -/
def State.namesUnrevealed (s : State) (i : SlotIndex) (bs : List Byte) : Bool :=
  decide ((s.credential i).kind = .user) && bs.any fun b => !s.revealsByte i b

/-- The ranges LOCK takes (R71). -/
def State.lockTakes (s : State) (i : SlotIndex) (bs : List Byte) : List RangeIndex :=
  if bs = [] then
    if (s.credential i).kind = .user then allRanges.filter fun r => s.copies.layout.holdsCurrent (s.credential i).wraps r
    else allRanges
  else allRanges.filter fun r => (bs.filterMap rangeOf).contains r

/-- LOCK after its gate and kind test: the ranges are both-locked and the response is held until their slots are EMPTY
(R71). A USER's list that names a range not revealed and also has a count above 16, which R60 answers INVALID among the
request's own tests, is answered NOT_PERMITTED: the manual does not order the two (DESIGN CHOICE, notes/assumptions/44.md). -/
def State.serveLock (s : State) (v : Service) (i : SlotIndex) (bs : List Byte) : State :=
  if s.namesUnrevealed i bs then s.answerPlain .notPermitted
  else if 16 < bs.length ∨ bs.any (fun b => (rangeOf b).isNone) then s.answerPlain .invalid
  else (s.bothLockAll (s.lockTakes i bs)).stage v (.holdLock (s.lockTakes i bs))

/-- One entry of SET LOCKS with its codes read. -/
structure LockChange where
  range : RangeIndex
  locks : Locks
  deriving DecidableEq, Repr

/-- The entry of SET LOCKS that three bytes give; none when the index exceeds 15 or a code is neither 0 nor 1 (R60, R73). -/
def lockChangeOf (e : LockEntry) : Option LockChange :=
  match rangeOf e.range, lockOf e.readLock, lockOf e.writeLock with
  | some r, some a, some b => some ⟨r, ⟨a, b⟩⟩
  | _, _, _ => none

/-- The entries of SET LOCKS with their codes read; none when any is refused. -/
def lockChanges : List LockEntry → Option (List LockChange)
  | [] => some []
  | e :: es =>
      match lockChangeOf e, lockChanges es with
      | some c, some cs => some (c :: cs)
      | _, _ => none

/-- An entry clears a lock that is set on a range whose slot is not LOADED (R67, R73). -/
def State.clearsUnkeyed (s : State) (c : LockChange) : Bool :=
  decide (s.slots[c.range].state ≠ .loaded) &&
    ((s.locks[c.range].readLock && !c.locks.readLock) || (s.locks[c.range].writeLock && !c.locks.writeLock))

/-- Applies one entry of SET LOCKS: one equal to the present locks changes nothing, one that sets both both-locks (R66),
another writes the locks and keeps the key (R66, R67, R73). -/
def State.applyLocks (s : State) (c : LockChange) : State :=
  if c.locks = s.locks[c.range] then s
  else if c.locks = Locks.both then s.bothLock c.range
  else s.setLocks c.range c.locks

/-- SET LOCKS after its gate and kind test (R73). A USER's list that names a range not revealed and also has a count above 16,
or a lock code other than 0 and 1, which R60 answers INVALID among the request's own tests, is answered NOT_PERMITTED: the manual
does not order the two (DESIGN CHOICE, notes/assumptions/44.md). -/
def State.serveSetLocks (s : State) (i : SlotIndex) (es : List LockEntry) : State :=
  if s.namesUnrevealed i (es.map LockEntry.range) then s.answerPlain .notPermitted
  else if es.length = 0 ∨ 16 < es.length ∨ ¬ (es.map LockEntry.range).Nodup then s.answerPlain .invalid
  else
    match lockChanges es with
    | none => s.answerPlain .invalid
    | some cs =>
        if cs.any s.clearsUnkeyed then s.answerPlain .locked
        else (cs.foldl State.applyLocks s).answerPlain .good

/-- END SESSION after its gate: every range both-locked, the pending view dropped, a session end pending, and the response
held until it completes (R74, R75). -/
def State.serveEndSession (s : State) (v : Service) : State := s.markSessionEnd.stage v .holdEndSession

/-! ## Ranges (section 1.6, section 8.6) -/

/-- The extent DEFINE RANGE takes: rounded inward, clamped to M (R19). -/
def takenExtent (capacity start length : Nat) : Nat × Nat :=
  let first := (start + 7) / 8 * 8
  (first, min ((start + length) / 8 * 8) capacity - first)

/-- The tests of the extent taken (R19). -/
def Layout.admits (l : Layout) (r : RangeIndex) (image : Bool) (x : Nat × Nat) : Bool :=
  decide (2048 ≤ x.2) &&
  (allRanges.all fun q => decide (q = r) || !l[q].defined || (l[q].extent.all fun y => disjoint x y)) &&
  (!image || (decide (x.2 ≤ 262144) && allRanges.all fun q => decide (q = r) || !(l[q].defined && l[q].image)))

/-- Rewrites one entry of a layout. -/
def Layout.put (l : Layout) (r : RangeIndex) (e : RangeEntry) : Layout := l.set r e

/-- A range request sends its layout and awaits it (R20, R21, R163). -/
def State.writeLayout (s : State) (v : Service) (j : RangeJob) (e : RangeEntry) : State :=
  s.awaitWrite v (.rangeLayout j) (.layout (s.copies.layout.put j.range e))

/-- DEFINE RANGE after its gate and kind test (R18 to R20). -/
def State.serveDefineRange (s : State) (v : Service) (index flags lockOn : Byte) (start length : Nat) : State :=
  match rangeOf index with
  | none => s.answerPlain .invalid
  | some r =>
      let concealable := flags.getLsbD 0
      let image := flags.getLsbD 1
      let writeProtected := flags.getLsbD 2
      let events : LockOn := ⟨lockOn.getLsbD 0, lockOn.getLsbD 1⟩
      if r = 0 ∨ (image ∧ (concealable ∨ writeProtected ∨ events.linkReset ∨ events.lowPower)) then s.answerPlain .invalid
      else
        let x := takenExtent s.capacity start length
        if s.copies.layout.admits r image x then
          s.writeLayout v ⟨r, if image then .defineImage else .defineKeyed, .extent x.1 x.2, 1⟩
            ⟨true, some x, concealable, image, writeProtected, events, s.copies.layout[r].generation + 1⟩
        else s.answerPlain .invalid

/-- DELETE RANGE after its gate and kind test (R21). -/
def State.serveDeleteRange (s : State) (v : Service) (index : Byte) : State :=
  match rangeOf index with
  | none => s.answerPlain .invalid
  | some r =>
      if r = 0 ∨ s.copies.layout[r].defined = false then s.answerPlain .invalid
      else
        s.writeLayout v ⟨r, .delete, .noFields, 1⟩
          { RangeEntry.undefined with generation := s.copies.layout[r].generation + 1 }

/-- ERASE RANGE after its gate and kind test: the range is both-locked and the request held until its slot is EMPTY
(R162). -/
def State.serveEraseRange (s : State) (v : Service) (index : Byte) : State :=
  match rangeOf index with
  | none => s.answerPlain .invalid
  | some r =>
      if s.copies.layout[r].defined = false ∨ s.copies.layout[r].image then s.answerPlain .invalid
      else (s.bothLock r).stage v (.holdErase r)

/-- ERASE RANGE with its slot EMPTY: the layout with the range's generation incremented (R163). -/
def State.eraseLayout (s : State) (v : Service) (r : RangeIndex) : State :=
  let e := { s.copies.layout[r] with generation := s.copies.layout[r].generation + 1 }
  s.writeLayout v ⟨r, .erase, .generation e.generation, 1⟩ e

/-- A user record that a range request rewrites: USER or WIPE, not CORRUPT, its wrap list naming the range
(R20, R21, R163). -/
def State.userNames (s : State) (r : RangeIndex) (i : SlotIndex) : Bool :=
  decide (i ≠ 0) && !s.copies.credentials[i].corrupt &&
    s.copies.credentials[i].record.any fun c =>
      (decide (c.kind = .user) || decide (c.kind = .wipe)) && namesRange c.wraps r

/-- A credential record without the wraps of a range and without its stale wraps (R20, R95). -/
def Layout.withoutRange (l : Layout) (r : RangeIndex) (c : Credential) : Credential :=
  { c with wraps := dropWrap r (l.currentWraps c.wraps) }

/-- The user records of a range request, in slot order; after the last the request is answered (R20, R21, R96, R163). -/
def State.rangeUsers (s : State) (v : Service) (j : RangeJob) : State :=
  match allSlots.find? fun i => decide (j.nextSlot ≤ i.val) && s.userNames j.range i with
  | some i =>
      s.awaitWrite v (.rangeUser { j with nextSlot := i.val + 1 })
        (.credential i (s.copies.layout.withoutRange j.range (s.credential i)))
  | none => s.answer .good j.answer

/-- The owner record with a wrap of a new key for a range (R20, R163). -/
def State.ownerWithNewKey (s : State) (secret : Secret) (r : RangeIndex) : Credential :=
  let c := s.credential 0
  let w := wrapKey (c.wrappingKey secret) r s.copies.layout[r].generation s.newKey
  { c with wraps := putWrap w (s.copies.layout.currentWraps c.wraps) }

/-- The owner record of a range request, after the layout: with a new key's wrap (DEFINE RANGE of a keyed range, ERASE
RANGE), or without the range's wrap (an IMAGE range; DELETE RANGE, only when the owner held one). A CORRUPT owner record is
not rewritten (R20, R21, R82, R163). -/
def State.rangeOwner (s : State) (v : Service) (secret : Secret) (j : RangeJob) : State :=
  if s.copies.credentials[(0 : SlotIndex)].corrupt then s.rangeUsers v j
  else
    match j.change with
    | .defineKeyed | .erase =>
        s.drawn.awaitWrite v (.rangeOwner j) (.credential 0 (s.ownerWithNewKey secret j.range))
    | .defineImage =>
        s.awaitWrite v (.rangeOwner j) (.credential 0 (s.copies.layout.withoutRange j.range (s.credential 0)))
    | .delete =>
        if namesRange (s.credential 0).wraps j.range then
          s.awaitWrite v (.rangeOwner j) (.credential 0 (s.copies.layout.withoutRange j.range (s.credential 0)))
        else s.rangeUsers v j

/-- IMAGE WRITE ENABLE after its gate and kind test (R138). The latch is set in LOCKED (R16); one that reaches its effect in
DORMANT leaves it clear, as R175 gives for the wake (DEDUCED, notes/assumptions/15.md). -/
def State.serveImageWriteEnable (s : State) : State :=
  { s with latch := s.latch || decide (s.access = Access.locked) }.answerPlain .good

/-! ## Policy (section 7.4) -/

/-- Strictness of an enclosure policy: more is stricter (R135). -/
def EnclosurePolicy.strictness : EnclosurePolicy → Nat
  | .ignore => 0
  | .lock => 1
  | .wipe => 2

/-- Strictness of a wipe depth (R135). -/
def Depth.strictness : Depth → Nat
  | .keys => 0
  | .media => 1
  | .mediaAndImage => 2

/-- Strictness of a binding policy (R136). -/
def BindingPolicy.strictness : BindingPolicy → Nat
  | .none => 0
  | .deny => 1
  | .wipe => 2

/-- Free tries clamped to 1..16 (R135, step 1). -/
def clampTries (f : Nat) : Nat := min 16 (max 1 f)

/-- The attempt limit: 0, or clamped to F + 1..200 (R135, step 1). -/
def clampAttempts (tries l : Nat) : Nat := if l = 0 then 0 else min 200 (max (tries + 1) l)

/-- The absence limit clamped to 0..250 (R135, step 1). -/
def clampAbsences (a : Nat) : Nat := min 250 a

/-- A limit `new` is less strict than the limit `held`: 0 is off and least strict, and otherwise the greater is the less
strict (R135, step 2). -/
def limitLooser (new held : Nat) : Bool :=
  if held = 0 then false else decide (new = 0) || decide (held < new)

/-- The policy SET POLICY takes: clamped, and in FINAL each field that would be less strict kept (R135). -/
def Policy.take (p : Policy) (final : Bool) (f l a : Nat) (e : EnclosurePolicy) (d : Depth) : Policy :=
  let f1 := clampTries f
  let l1 := clampAttempts f1 l
  let a1 := clampAbsences a
  { p with
    freeTries := if final && decide (p.freeTries < f1) then p.freeTries else f1
    attemptLimit := if final && limitLooser l1 p.attemptLimit then p.attemptLimit else l1
    absenceLimit := if final && limitLooser a1 p.absenceLimit then p.absenceLimit else a1
    enclosure := if final && decide (e.strictness < p.enclosure.strictness) then p.enclosure else e
    depth := if final && decide (d.strictness < p.depth.strictness) then p.depth else d }

/-- The provisioning state is FINAL (R97). -/
def State.isFinal (s : State) : Bool := decide (s.provisioning = .final)

/-- A request writes the policy record once and answers at its completion (section 7.4). -/
def State.writePolicy (s : State) (v : Service) (p : Policy) (f : Response) : State :=
  s.awaitWrite v (.lastWrite f) (.policy p)

/-- The answer of SET POLICY: the five values taken (R134). -/
def Policy.answer (p : Policy) : Response :=
  .policy p.freeTries p.attemptLimit p.absenceLimit p.enclosure p.depth

/-- SET POLICY after its gate and kind test (R134, R135). -/
def State.serveSetPolicy (s : State) (v : Service) (f l a : Nat) (enclosure depth : Byte) : State :=
  match enclosureOf enclosure, depthOf depth with
  | some e, some d =>
      let p := s.copies.policy.take s.isFinal f l a e d
      s.writePolicy v p p.answer
  | _, _ => s.answerPlain .invalid

/-- The policy BIND PLATFORM takes (R136). -/
def Policy.bindTo (p : Policy) (final : Bool) (b : BindingPolicy) (digest : Digest) : Policy :=
  if final && decide (b.strictness < p.binding.strictness) then p
  else { p with binding := b, digest := if b = .none then none else some digest }

/-- BIND PLATFORM after its gate and kind test (R136). -/
def State.serveBindPlatform (s : State) (v : Service) (policy : Byte) (token : Token) : State :=
  match bindingOf policy with
  | some b =>
      let p := s.copies.policy.bindTo s.isFinal b (Config.tokenDigest token)
      s.writePolicy v p (.binding p.binding)
  | none => s.answerPlain .invalid

/-- FINALIZE after its gate and kind test (R137). -/
def State.serveFinalize (s : State) (v : Service) : State :=
  if s.copies.policy.attemptLimit = 0 then s.answerPlain .invalid
  else s.writePolicy v { s.copies.policy with final := true } .noFields

/-! ## WIPE (R142, R143) -/

/-- FAULT with cause STORE (R143). -/
def State.inStoreFault (s : State) : Bool := decide (s.access = .fault) && decide (s.faultCause = some .store)

/-- The depth a WIPE request takes: MEDIA_AND_IMAGE in FAULT (STORE) with the policy record torn, else the policy's
(R143, R147). -/
def State.orderedDepth (s : State) : Depth :=
  if s.inStoreFault && s.scan.policyTorn then .mediaAndImage else s.copies.policy.depth

/-- The reason of a WIPE request: RECOVERY in FAULT (STORE), else ORDER (R142, R143). -/
def State.orderedReason (s : State) : Reason := if s.inStoreFault then .recovery else .order

/-- A WIPE in FAULT resumes the wipe that the store records: GOOD with its reason and depth, WIPING, and the resume of R159
(R143). From FAULT (SELF_TEST) the wipe is to return to that fault (R150). -/
def State.resumeOrdered (s : State) (j : WipeJob) : State :=
  let j' := { j with fromSelfTestFault := decide (s.faultCause = some .selfTest) }
  let s1 := (s.answer .good (.wipe j.reason j.depth)).enterWiping
  { s1 with faultCause := none, engine := { s1.engine with job := some j' } }.resumeWipe

/-- WIPE after its tests: the answer GOOD with reason and depth is handed out, then the wipe is triggered, or the recorded
one resumed (R142, R143). -/
def State.serveWipe (s : State) : State :=
  match s.engine.job with
  | some j => if s.access = .fault then s.resumeOrdered j else s.answer .good (.wipe s.orderedReason s.orderedDepth)
  | none => (s.answer .good (.wipe s.orderedReason s.orderedDepth)).trigger s.orderedReason s.orderedDepth

end Sys2Proof.Machine
end

