-- ==== Sys2Proof/Machine/Channel.lean ====
section
/-! DEFINITION. Machine/Channel.lean: how a request enters service and is taken through its tests, and how the request in
service goes on when a write it awaited completes (sections 6.1 and 7.1). -/

namespace Sys2Proof.Machine

/-- How a request stands to the authorization block (section 7.9). -/
inductive AuthNeed where
  | ignored
  | optional
  | required
  deriving DecidableEq, Repr

/-- Authorization of each request (section 7.9); WIPE takes none in FAULT with cause STORE (R143). -/
def requestNeed (r : Request) (storeFault : Bool) : AuthNeed :=
  match r with
  | .queryState | .setAttention | .selfTest | .takeOwnership _ | .presentPlatform _ => .ignored
  | .queryRanges => .optional
  | .wipe => if storeFault then .ignored else .required
  | _ => .required

/-- The refusal of an access state for every request it does not serve, before the request's own entry is consulted
(R122). -/
def accessRefusal (a : Access) (r : Request) : Option Status :=
  match a with
  | .wiping => if r = .queryState then none else some .wiped
  | .fault => if r = .queryState ∨ r = .wipe then none else some .fault
  | .dormant => some .dormant
  | _ => none

/-- The access-state test of each request's own entry: whether it is served (section 7.9). `withBlock` says that QUERY
RANGES carries a block. -/
def State.entryServes (s : State) (r : Request) (withBlock : Bool) : Bool :=
  match r with
  | .queryState | .setAttention | .selfTest | .presentPlatform _ => true
  | .queryRanges => !(withBlock && decide (s.access = .blank))
  | .queryCredentials | .setCredential .. | .changeSecret _ | .setPolicy .. | .bindPlatform .. =>
      decide (s.access ≠ .blank)
  | .finalize => decide (s.access ≠ .blank) && !s.isFinal
  | .wipe => decide (s.access ≠ .blank)
  | .takeOwnership _ => decide (s.access = .blank)
  | .unlock _ => decide (s.access = .locked) || (decide (s.access = .opened) && !s.sessionEnd)
  | .lock _ | .setLocks _ | .endSession => decide (s.access = .opened) || decide (s.access = .staged)
  | .defineRange .. | .deleteRange _ | .imageWriteEnable => decide (s.access = .locked)
  | .eraseRange _ => decide (s.access = .locked) || decide (s.access = .opened)

/-- The own tests and effect of a request that has passed the gate, by its entry. -/
def State.effect (s : State) (v : Service) (i : SlotIndex) (secret : Secret) : State :=
  match v.request with
  | .queryState => s.serveQueryState
  | .queryRanges => s.answer .good s.layoutReport
  | .queryCredentials => s.answer .good s.credentialsReport
  | .setAttention => s.serveSetAttention
  | .selfTest => s.serveSelfTest v
  | .takeOwnership newSecret => s.serveTakeOwnership v newSecret
  | .presentPlatform token => s.servePresentPlatform token
  | .unlock handover => s.serveUnlock v i secret handover
  | .setCredential target kind state newSecret reveal => s.serveSetCredential v secret target kind state newSecret reveal
  | .changeSecret newSecret => s.serveChangeSecret v i secret newSecret
  | .lock ranges => s.serveLock v i ranges
  | .setLocks entries => s.serveSetLocks i entries
  | .endSession => s.serveEndSession v
  | .defineRange index flags lockOn start length => s.serveDefineRange v index flags lockOn start.toNat length.toNat
  | .deleteRange index => s.serveDeleteRange v index
  | .imageWriteEnable => s.serveImageWriteEnable
  | .setPolicy f l a enclosure depth => s.serveSetPolicy v f.toNat l.toNat a.toNat enclosure depth
  | .bindPlatform policy token => s.serveBindPlatform v policy token
  | .finalize => s.serveFinalize v
  | .eraseRange index => s.serveEraseRange v index
  | .wipe => s.serveWipe

/-- The kind test, then the request's own tests and effect (R98, R104). -/
def State.afterGate (s : State) (v : Service) (i : SlotIndex) (secret : Secret) : State :=
  if requestAllows v.request (s.credential i).kind then s.effect v i secret else s.answerPlain .notPermitted

/-- After stage 7: when the request names slot 0 and the owner lacks a current wrap for range 0, that wrap is written first
(R151); then the kind test. -/
def State.afterReset (s : State) (v : Service) (i : SlotIndex) (secret : Secret) : State :=
  if i = 0 ∧ s.lacksGlobalWrap then
    s.drawn.awaitWrite v .ownerWrap (.credential 0 (s.ownerWithGlobalWrap secret))
  else s.afterGate v i secret

/-- A request that carries no block, or whose entry ignores it. -/
def State.effectWithoutGate (s : State) (r : Request) (v : Service) : State :=
  match r with
  | .queryRanges => s.serveQueryRanges
  | _ => s.effect v 0 0

/-- The tests of a request with a sound envelope that has entered service: a missing block, the access state, the entry's
own state test, then the gate (R59, R98, R121, R122). -/
def State.testRequest (s : State) (v : Service) : State :=
  let need := requestNeed v.request s.inStoreFault
  if need = .required ∧ v.auth = none then s.answerPlain .notPermitted
  else
    match accessRefusal s.access v.request with
    | some st => s.answerPlain st
    | none =>
        if s.entryServes v.request v.auth.isSome then
          match need, v.auth with
          | .ignored, _ | _, none => s.effectWithoutGate v.request v
          | _, some (i, _) => s.enterGate v i
        else s.answerPlain .wrongState

/-- A waiting request enters service: its envelope is tested, and an envelope that fails is answered INVALID with no state
changed (R59, R121). -/
def State.enterService (s : State) (q : Waiting) : State :=
  match readEnvelope q.length q.bytes with
  | none => s.handOut q.tag .invalid (envelopeCode q.bytes) .noFields
  | some e =>
      let v : Service := ⟨q.tag, e.request.code, e.request, e.auth, s.access, .holdTest, false, false⟩
      { s with service := some v }.testRequest v

/-- The write that the request in service awaited has completed: a request that a wipe has struck is answered WIPED
(R105, R124); any other goes on from its stage. -/
def State.channelTold (s : State) : State :=
  match s.service with
  | none => s
  | some v =>
      if v.struck then s.answerPlain .wiped
      else
        match v.stage, v.auth with
        | .gateCount, some (i, secret) => s.gateVerify v i secret
        | .gateReset, some (i, secret) => s.afterReset v i secret
        | .ownerWrap, some (i, secret) => s.afterGate v i secret
        | .takeOwnership, _ => s.ownershipTaken
        | .lastWrite f, _ => s.answer .good f
        | .rangeLayout j, some (_, secret) => s.rangeOwner v secret j
        | .rangeOwner j, _ | .rangeUser j, _ => s.rangeUsers v j
        | _, _ => s

end Sys2Proof.Machine
end

