-- ==== Sys2Proof/Machine/PowerUp.lean ====
section
/-! DEFINITION. Machine/PowerUp.lean: power-good, the power-up sequence, the enclosure policy, the end of a self-test, the
completion of a record write, and power loss (sections 5.4, 5.5, 7.5, 8.2, 9.1 and 9.2). -/

namespace Sys2Proof.Machine

/-! ## The enclosure policy (section 8.2) -/

/-- Applies the latched opening under the enclosure policy and clears the latch (R144, R145). -/
def State.applyOpening (s : State) : State :=
  let s' := { s with latched := false }
  if s.provisioning = .blank then s'
  else
    match s.copies.policy.enclosure with
    | .ignore => s'
    | .lock => s'.enclosureLock
    | .wipe => s'.triggerWipe .enclosure

/-- The enclosure line changes from CLOSED to OPEN: the level becomes OPEN, the opening is latched, ENCLOSURE_OPENED is set,
and the opening is applied at once, except before the last step of the power-up sequence (R144). -/
def State.opening (s : State) : State :=
  let s' := { s with level := .opened, latched := true }.notify .enclosureOpened
  if s.power = .running then s'.applyOpening else s'

/-! ## The power-up sequence (section 9.2) -/

/-- The last step: the back-off is restarted, a latched opening is applied, and the lanes begin taking (R168). -/
def State.lastStep (s : State) : State :=
  let s1 := if s.access = .blank ∨ s.access = .locked ∨ s.access = .fault then s.startBackoff else s
  let s2 := { s1 with power := .running }
  if s2.latched then s2.applyOpening else s2

/-- The absence step: the absence count is raised and written (R118). -/
def State.absenceStep (s : State) : State :=
  { s with power := .absence }.requestWrite
    (.counters { s.copies.counters with absences := bump s.copies.counters.absences }) [.sequence]

/-- After the absence step's write: a count above a nonzero A triggers a wipe with reason ABSENCE, otherwise LOCKED is
entered; then the last step (R118, R167). -/
def State.absenceTest (s : State) : State :=
  if s.copies.policy.absenceLimit ≠ 0 ∧ s.copies.policy.absenceLimit < s.copies.counters.absences then
    (s.triggerWipe .absence).lastStep
  else s.enterLocked.lastStep

/-- The power-up decision after a passed self-test: the first row of R167's table that applies. -/
def State.powerUpDecision (s : State) : State :=
  if s.scan.storeFault then (s.enterFault .store).lastStep
  else if s.copies.wipe.phase ≠ .none then s.enterWiping.resumeWipe.lastStep
  else if s.provisioning = .blank then s.reachBlank.lastStep
  else s.absenceStep

/-- Power-good: volatile state at its start values, the enclosure's first sample, the scan, and the self-test once no
repair write is awaited (R144, R166). -/
def State.powerUp (s : State) (level : Level) : State :=
  let s1 := { State.unpowered s.store s.vector s.draws s.pending with level := level }.scanStore
  let s2 := { s1 with engine := ⟨s1.copies.wipe.job, none⟩ }
  if repairCount s.store = 0 then { s2 with power := .selfTest } else s2

/-- A write that the power-up sequence awaited has completed. -/
def State.sequenceTold (s : State) : State :=
  match s.power with
  | .scan n => if n ≤ 1 then { s with power := .selfTest } else { s with power := .scan (n - 1) }
  | .absence => s.absenceTest
  | .off | .selfTest | .running => s

/-! ## The known-answer self-test (R40, R41, R140) -/

/-- Step 1 of the test: the vector's plaintext enciphered under its key and tweak, or what a defective unit gave in its
place (R40). -/
def KnownAnswer.enciphered (k : KnownAnswer) (defect : Option Sector) : Sector :=
  defect.getD (encipher k.key k.tweak k.plain)

/-- Step 3 of the test: the result of step 1 deciphered under the same key and tweak, or what a defective unit gave in its
place (R40). -/
def KnownAnswer.deciphered (k : KnownAnswer) (x : Sector) (defect : Option Sector) : Sector :=
  defect.getD (decipher k.key k.tweak x)

/-- The test passes when both comparisons match: steps 2 and 4 (R40). -/
def KnownAnswer.passes (k : KnownAnswer) (enciphered deciphered : Option Sector) : Bool :=
  decide (k.enciphered enciphered = k.expected) && decide (k.deciphered (k.enciphered enciphered) deciphered = k.plain)

/-- A SELF TEST's failed test: FAULT (SELF_TEST) with every slot EMPTY, every range both-locked, no session end pending, the
empty view and the latch clear, and the answer FAULT (R140). -/
def State.selfTestFailed (s : State) : State :=
  ({ s.emptySlots with sessionEnd := false, latch := false }.enterFault .selfTest).answerPlain .fault

/-- The known-answer test ends; its result goes to the power-up sequence or to the SELF TEST request (R41, R140, R166). A
test that a wipe has struck is answered WIPED and its result not acted on. -/
def State.testEnds (s : State) (passed : Bool) : State :=
  if s.power = .selfTest then
    if passed then s.powerUpDecision else (s.enterFault .selfTest).lastStep
  else
    match s.service with
    | none => s
    | some v =>
        if v.stage = .testing then
          if v.struck then s.answerPlain .wiped
          else if passed then s.answerPlain .good
          else s.selfTestFailed
        else s

/-! ## The completion of a record write (R87) -/

/-- One requester is told of a write's completion (R87, R89). -/
def State.tell (s : State) : Waiter → State
  | .channel => s.channelTold
  | .engine => s.engineTold
  | .sequence => s.sequenceTold

/-- The write in progress completes: the record and its working copy take the content, the requesters awaiting it are told,
and the writer begins the write at the head of the queue (R87). -/
def State.writeCompletes (s : State) (w : RecordWrite) : State :=
  let s' := w.waiters.foldl State.tell (s.landWrite w)
  { s' with writer := s'.writer.beginNext }

/-! ## The back-off timer (R103) -/

/-- The back-off timer expires: it stops and BACKOFF_ENDED is set. -/
def State.backoffExpires (s : State) : State := { s with backoff := none }.notify .backoffEnded

/-! ## Power loss (R165) -/

/-- A power loss: every activity ends, volatile state is lost, and the record of a write in progress is left as `cut` says
(R90, R165, R181). -/
def State.losePower (s : State) (cut : WriteCut) : State :=
  State.unpowered (s.storeAfterLoss cut) s.vector s.draws s.pending

end Sys2Proof.Machine
end

