-- ==== Sys2Proof/Machine/Link.lean ====
section
/-! DEFINITION. Machine/Link.lean: the notices LINK RESET, POWER ENTER and POWER EXIT (sections 3.6, 9.3 and 9.4). -/

namespace Sys2Proof.Machine

/-- Hands out the acknowledgement of a notice (R55). -/
def State.acknowledge (s : State) (n : Notice) (st : Status) : State := s.sendUp (.acknowledgement n st)

/-- Forwards a notice to the back end (R55). -/
def State.forwardNotice (s : State) (n : Notice) : State := s.sendDown (.notice n)

/-- DORMANT wakes to its resume state: the blocks act first, a wipe going on from where it waited among them, and POWER EXIT is
then forwarded (R55, R161, R175). The first sanitize steps of such a wipe thus go downstream before the notice (DEDUCED,
notes/assumptions/32.md). -/
def State.wake (s : State) : State :=
  let s' := { s with access := s.resume.getD .locked, resume := none }
  (if s'.access = .wiping then s'.wakeEngine else s').forwardNotice .powerExit

/-- The handover: in STAGED a link reset makes the pending view current and enters OPEN (R14). -/
def State.handover (s : State) : State :=
  { s.enter .opened with view := s.pendingView, pendingView := none }

/-- A link reset at the control channel: every waiting request is removed, and the response of the request in service is to
be discarded (R123). -/
def State.flushChannel (s : State) : State :=
  { s with queue := [], service := s.service.map fun v => { v with discard := true } }

/-- What a link reset does at the views, the locks and the session, by the access state it finds: a session end whose slots
it has emptied completes first (R75); STAGED hands over (R14); OPEN applies the lock-on (R69, R178). -/
def State.linkResetSession (s : State) : State :=
  let s' := if s.sessionEndReady then s.completeSessionEnd else s
  match s'.access with
  | .staged => s'.handover
  | .opened => s'.linkResetLockOn
  | _ => s'

/-- Clears the image write latch (R16). -/
def State.clearLatch (s : State) : State := { s with latch := false }

/-- A link reset outside DORMANT, at every block that owns state it reaches, in the one event (R53, R123, R178). -/
def State.resetLink (s : State) : State :=
  (s.orphanTable.flushChannel.linkResetSession.clearLatch.forwardNotice .linkReset).acknowledge .linkReset .good

/-- LINK RESET: in DORMANT it is taken as POWER EXIT and then link reset, acknowledged once (R177). -/
def State.takeLinkReset (s : State) : State :=
  if s.access = .dormant then s.wake.resetLink else s.resetLink

/-- POWER ENTER: held for drain, or refused by the access state or by a POWER ENTER already held (R170). -/
def State.takePowerEnter (s : State) : State :=
  if s.heldPowerEnter then s.acknowledge .powerEnter .dormant
  else
    match s.access with
    | .wiping => s.acknowledge .powerEnter .wiped
    | .fault => s.acknowledge .powerEnter .fault
    | .dormant => s.acknowledge .powerEnter .dormant
    | .starting | .blank | .locked | .staged | .opened => { s with heldPowerEnter := true }

/-- The end of a POWER ENTER's hold: it is applied, or refused when the state is WIPING or FAULT by then (R170, R171). -/
def State.applyPowerEnter (s : State) : State :=
  let s' := { s with heldPowerEnter := false }
  match s.access with
  | .wiping => s'.acknowledge .powerEnter .wiped
  | .fault => s'.acknowledge .powerEnter .fault
  | _ =>
      let s1 := s'.lowPowerLockOn
      ({ s1 with resume := some s.access, latch := false, access := .dormant }.forwardNotice .powerEnter).acknowledge
        .powerEnter .good

/-- POWER EXIT: it wakes DORMANT (R175), withdraws a held POWER ENTER (R172), or only is forwarded and acknowledged
(R176). -/
def State.takePowerExit (s : State) : State :=
  if s.heldPowerEnter then
    (({ s with heldPowerEnter := false }.acknowledge .powerEnter .aborted).forwardNotice .powerExit).acknowledge
      .powerExit .good
  else if s.access = .dormant then s.wake.acknowledge .powerExit .good
  else (s.forwardNotice .powerExit).acknowledge .powerExit .good

/-- A notice is acted on (R55). -/
def State.takeNotice (s : State) : Notice → State
  | .linkReset => s.takeLinkReset
  | .powerEnter => s.takePowerEnter
  | .powerExit => s.takePowerExit

end Sys2Proof.Machine
end

