-- ==== Sys2Proof/Machine/Lane.lean ====
section
/-! DEFINITION. Machine/Lane.lean: taking a capsule from the capsule lane and a sector from the data lane (sections 2.1, 3.1
to 3.3). -/

namespace Sys2Proof.Machine

/-! ## Data capsules -/

/-- The refusal of a data capsule by the access state, or by a POWER ENTER held for drain (R23). -/
def State.dataRefusal (s : State) : Option Status :=
  match s.access with
  | .wiping => some .wiped
  | .fault => some .fault
  | .dormant => some .dormant
  | .starting | .blank | .locked | .staged | .opened => if s.heldPowerEnter then some .dormant else none

/-- READ, WRITE and DEALLOCATE past the access-state test: refused by a stage, or bound (R23, R30). -/
def State.admitAddressed (s : State) (t : Tag) (k : Kind) (v c : Nat) : State :=
  match s.resolve k v c with
  | .refused st => s.refuse k.code (BitVec.ofNat 8 t.val) st
  | .pieces ps => s.bind t k v c (segmentsOf t ((s.view.map View.kind).getD .empty) 0 ps) none

/-- A data capsule admitted on a FREE tag (R23, R36). An IDENTIFY records the current view's capacity (R17). -/
def State.admitData (s : State) (t : Tag) (k : Kind) (c : Capsule) : State :=
  match s.dataRefusal with
  | some st => s.refuse k.code (BitVec.ofNat 8 t.val) st
  | none =>
      match k with
      | .flush => s.bind t .flush 0 0 [bareSegment t] none
      | .identify => s.bind t .identify 0 0 [bareSegment t] (some s.viewCapacity)
      | _ => s.admitAddressed t k c.lba.toNat c.count.toNat

/-! ## CONTROL capsules -/

/-- The bytes of an envelope that the part keeps: up to 1024 (R58). -/
def keptEnvelope (bytes : List Byte) : List Byte := bytes.take 1024

/-- A CONTROL capsule admitted on a FREE tag: completed DORMANT in DORMANT, BUSY when four requests wait behind one in
service, else its entry becomes CONTROL and its request joins the channel; with the service place empty it enters service at
the same event (R48, R120). -/
def State.admitControl (s : State) (t : Tag) (bytes : List Byte) : State :=
  if s.access = .dormant then s.refuse (Kind.code .control) (BitVec.ofNat 8 t.val) .dormant
  else if s.service.isSome ∧ 4 ≤ s.queue.length then s.refuse (Kind.code .control) (BitVec.ofNat 8 t.val) .busy
  else
    { s with queue := s.queue ++ [Waiting.mk t bytes.length (keptEnvelope bytes)] }.setEntry t
      { Entry.free with kind := some .control, state := .control }

/-! ## The capsule lane -/

/-- A capsule admitted on a FREE tag (R45). -/
def State.admitCapsule (s : State) (t : Tag) (c : Capsule) : State :=
  match kindOfByte c.kind with
  | .tagged .control => s.admitControl t c.envelope
  | .tagged k => s.admitData t k c
  | .notice _ | .undefined => s.refuse c.kind (BitVec.ofNat 8 t.val) .invalid

/-- A tagged capsule, or one of an undefined kind: its tag is tested first (R45, R47). A tag of 32 or above, or one whose
entry is FORWARDED, CONTROL or ABORTING, has the capsule discarded with PROTOCOL_ERROR. -/
def State.takeTagged (s : State) (c : Capsule) : State :=
  match tagOf c.tag with
  | none => s.notify .protocolError
  | some t =>
      match s.table[t].state with
      | .free => s.admitCapsule t c
      | .forwarded | .control | .aborting => s.notify .protocolError
      | .orphaned => s

/-- Taking a capsule from the capsule lane (R42, R45). -/
def State.takeCapsule (s : State) (c : Capsule) : State :=
  match kindOfByte c.kind with
  | .notice n => s.takeNotice n
  | .tagged _ | .undefined => s.takeTagged c

/-- The capsule at the head of the lane bears a tag whose entry is ORPHANED, so the lane does not take it (R42, R47). -/
def State.blocked (s : State) (c : Capsule) : Bool :=
  match kindOfByte c.kind with
  | .notice _ => false
  | .tagged _ | .undefined => (tagOf c.tag).any fun t => decide (s.table[t].state = .orphaned)

/-- The lanes take: the power-up sequence has reached its last step and no self-test runs (R42, R43). -/
def State.lanesTake (s : State) : Bool := decide (s.power = .running) && !s.testRunning

/-! ## The data lane -/

/-- The segment that a command offset falls into: segment 0 below its length, segment 1 from there (R32). -/
def Entry.segmentAt (e : Entry) (offset : Nat) : Option Segment :=
  e.segments.find? fun g => decide (g.offset ≤ offset) && decide (offset < g.offset + g.count)

/-- The key of a segment's slot, if it names one that holds a key. -/
def State.segmentKey (s : State) (g : Segment) : Option Key := g.slot.bind fun r => s.slots[r].key

/-- A write sector of a segment as it goes downstream: enciphered under the slot's key and the tweak of its media LBA, or
unchanged for an image segment (R32, R34). None when the slot named holds no key, which no run reaches (R63). -/
def State.writeSectorData (s : State) (g : Segment) (k : Nat) (x : Sector) : Option Sector :=
  match g.slot with
  | none => some x
  | some _ => (s.segmentKey g).map fun key => encipher key (tweakOf (g.lba + k)) x

/-- Segment offset `k` of a write segment has been received (R43, R46). -/
def Segment.receive (k : Nat) (g : Segment) : Segment := { g with received := insertNat k g.received }

/-- A write sector for an unfinished segment, its offset not yet received: marked received, then processed and held for the
Downstream Port (R32, R43). -/
def State.receiveSector (s : State) (t : Tag) (g : Segment) (k : Nat) (x : Sector) : State :=
  let s' := s.updateSegment t g.subTag (Segment.receive k)
  match s.writeSectorData g k x with
  | some y => { s' with writeHeld := s'.writeHeld ++ [HeldSector.mk g.subTag k y] }
  | none => s'

/-- A write data sector taken from the data lane, routed by the entry its tag names (R43). -/
def State.takeSector (s : State) (d : DataSector) : State :=
  match tagOf d.tag with
  | none => s.notify .protocolError
  | some t =>
      match s.table[t].state with
      | .aborting | .orphaned => s
      | .free | .control => s.notify .protocolError
      | .forwarded =>
          if s.table[t].kind = some .write ∧ d.offset < s.table[t].count then
            match s.table[t].segmentAt d.offset with
            | none => s.notify .protocolError
            | some g =>
                if g.status.isSome then s
                else if d.offset - g.offset ∈ g.received then s.notify .protocolError
                else s.receiveSector t g (d.offset - g.offset) d.data
          else s.notify .protocolError

end Sys2Proof.Machine
end

