-- ==== Sys2Proof/Machine/Settle.lean ====
section
/-! DEFINITION. Machine/Settle.lean: what follows at the same event: held responses and pending transitions that have become
ready, the control queue's next request, a POWER ENTER whose hold has ended, and the capsules and sectors waiting on a lane
that takes again. `settleStep` makes one such follow-up; `settle` makes them until none is left. -/

namespace Sys2Proof.Machine

/-- What a held request waits for has come: the slots of a LOCK's ranges, or an ERASE RANGE's slot, are EMPTY (R71, R162); no
entry is FORWARDED for a SELF TEST, or the part is DORMANT by then (R139); a link reset has taken away the response that an
UNLOCK has yet to hand out (R14). -/
def State.holdReady (s : State) : Bool :=
  match s.serviceStage with
  | some (.holdLock rs) => rs.all fun r => decide (s.slots[r].state = .empty)
  | some (.holdErase r) => decide (s.slots[r].state = .empty)
  | some .holdTest => s.noneForwarded || decide (s.access = .dormant)
  | some (.answering _) => s.service.any Service.discard
  | _ => false

/-- A pending session end or a held request is ready. -/
def State.channelReady (s : State) : Bool := s.sessionEndReady || s.holdReady

/-- The end of a hold: LOCK is answered GOOD (R72), ERASE RANGE begins its writes (R163), SELF TEST begins its test, or is
answered DORMANT when a POWER ENTER was applied first (R139), and an UNLOCK's response is answered (R14). -/
def State.endHold (s : State) : State :=
  match s.service with
  | none => s
  | some v =>
      match v.stage with
      | .holdLock _ => s.answerPlain .good
      | .holdErase r => s.eraseLayout v r
      | .holdTest => if s.access = .dormant then s.answerPlain .dormant else s.stage v .testing
      | .answering f => s.answer .good f
      | _ => s

/-- The pending session end completes, or the held request goes on. -/
def State.proceed (s : State) : State := if s.sessionEndReady then s.completeSessionEnd else s.endHold

/-- A held POWER ENTER's hold has ended: no entry is FORWARDED, and no self-test runs, for one that began first runs to its
end (R139, R170). -/
def State.powerEnterReady (s : State) : Bool := s.heldPowerEnter && s.noneForwarded && !s.testRunning

/-- Takes the sector at the head of the data lane (R43). -/
def State.takeData (s : State) : Option State :=
  match s.dataLane with
  | d :: ds => some ({ s with dataLane := ds }.takeSector d)
  | [] => none

/-- Takes the capsule at the head of the capsule lane, unless it waits on an ORPHANED entry (R42). -/
def State.takeHead (s : State) : Option State :=
  match s.lane with
  | c :: cs => if s.blocked c then none else some ({ s with lane := cs }.takeCapsule c)
  | [] => none

/-- Both lanes hold something that can be taken. -/
def State.bothLanes (s : State) : Bool := s.takeData.isSome && s.takeHead.isSome

/-- Takes from a lane, when the lanes take (R42, R43). Where both could be taken from, the manual fixes no order between them:
the lane is a free value (notes/assumptions/6.md). -/
def State.takeFromLanes (s : State) : Option State :=
  if s.lanesTake then
    if s.bothLanes then
      if Config.dataLaneFirst s.draws then s.drawn.takeData else s.drawn.takeHead
    else s.takeData <|> s.takeHead
  else none

/-- The next request of the queue enters service when the service place is empty (R121). -/
def State.serveNext (s : State) : Option State :=
  match s.service, s.queue with
  | none, q :: qs => some ({ s with queue := qs }.enterService q)
  | _, _ => none

/-- A POWER ENTER whose hold has ended is applied. -/
def State.enterIfReady (s : State) : Option State := if s.powerEnterReady then some s.applyPowerEnter else none

/-- One follow-up, or none when nothing is ready. Where a hold of the channel and a held POWER ENTER end at the same event,
either may be taken first (R72, R75, R139): the order is a free value. -/
def State.settleStep (s : State) : Option State :=
  if s.channelReady then
    if s.powerEnterReady && Config.powerEnterFirst s.draws then some s.drawn.applyPowerEnter
    else if s.powerEnterReady then some s.drawn.proceed
    else some s.proceed
  else (s.serveNext <|> s.enterIfReady) <|> s.takeFromLanes

/-- At most `n` follow-ups. -/
def settleN : Nat → State → State
  | 0, s => s
  | n + 1, s =>
      match s.settleStep with
      | some s' => settleN n s'
      | none => s

/-- More follow-ups than one event can have: each waiting capsule, sector and request gives rise to a few. -/
def State.settleBound (s : State) : Nat := 16 * (1 + s.lane.length + s.dataLane.length + s.queue.length)

/-- Every follow-up of an event. -/
def State.settle (s : State) : State := settleN s.settleBound s

/-- A change of the powered part, with every follow-up; without power nothing happens (R165). -/
def State.follow (s : State) (f : State → State) : State := if s.power = .off then s else (f s).settle

/-- An UNLOCK has yet to hand out its response (R14). -/
def State.owesAnswer (s : State) : Bool :=
  match s.serviceStage with
  | some (.answering _) => true
  | _ => false

/-- The response that an UNLOCK has yet to hand out is handed out, with every follow-up (R14). -/
def State.handedOut (s : State) : State := if s.owesAnswer then s.follow State.endHold else s

/-- An event of the powered part, with every follow-up. A response that has yet to be handed out goes before every event but a
link reset (R14). -/
def State.event (s : State) (f : State → State) : State := s.handedOut.follow f

/-- A capsule joins the capsule lane: it waits in order behind those offered before it, and is taken when the lane takes
(R42). -/
def State.queueCapsule (c : Capsule) (s : State) : State := { s with lane := s.lane ++ [c] }

/-- A capsule is offered on the capsule lane (R42). -/
def State.offer (s : State) (c : Capsule) : State := s.event (State.queueCapsule c)

/-- A LINK RESET is offered on the capsule lane; it may come before a response that has yet to be handed out (R14). -/
def State.offerLinkReset (s : State) : State := s.follow (State.queueCapsule (.plain (Notice.code .linkReset) 0 []))

/-- A sector is offered on the data lane (R43). -/
def State.offerSector (s : State) (d : DataSector) : State := s.event fun u => { u with dataLane := u.dataLane ++ [d] }

end Sys2Proof.Machine
end

