-- ==== Sys2Proof/Machine/Sectors.lean ====
section
/-! DEFINITION. Machine/Sectors.lean: the sectors and completions of the two ports: read data from below and on its way up,
write data on its way down, zeros owed for struck segments, and downstream completions (sections 2.2, 2.3 and 3.4). -/

namespace Sys2Proof.Machine

/-! ## Read data (R33, R51) -/

/-- A read sector of a segment as it goes upstream: deciphered under the slot's key and the tweak of its media LBA, or
unchanged for an image segment (R33, R34). None when the slot named holds no key, which no run reaches (R63). -/
def State.readSectorData (s : State) (g : Segment) (k : Nat) (x : Sector) : Option Sector :=
  match g.slot with
  | none => some x
  | some _ => (s.segmentKey g).map fun key => decipher key (tweakOf (g.lba + k)) x

/-- One more sector of a READ segment is delivered and not yet passed (R46). -/
def Segment.deliver (g : Segment) : Segment := { g with unpassed := g.unpassed + 1 }

/-- One sector of a READ segment has passed upstream (R46). -/
def Segment.pass (g : Segment) : Segment := { g with unpassed := g.unpassed - 1 }

/-- A read sector for a segment of a FORWARDED READ: counted as delivered, then processed and held for the outbound side
(R33, R51). -/
def State.deliverSector (s : State) (t : Tag) (g : Segment) (k : Nat) (x : Sector) : State :=
  match s.readSectorData g k x with
  | some y => { s.updateSegment t g.subTag Segment.deliver with readHeld := s.readHeld ++ [HeldSector.mk g.subTag k y] }
  | none => s

/-- A read data sector on an outstanding sub-tag of the Admission Unit, by the entry's state (R51). -/
def State.routeReadSector (s : State) (t : Tag) (subTag k : Nat) (x : Sector) : State :=
  match s.table[t].state with
  | .aborting | .orphaned => s
  | .free | .control => s.notify .protocolError
  | .forwarded =>
      match s.table[t].segment? subTag with
      | some g => if s.table[t].kind = some .read ∧ k < g.count then s.deliverSector t g k x else s.notify .protocolError
      | none => s.notify .protocolError

/-- A read data sector from the back end (R51). -/
def State.takeReadSector (s : State) (subTag k : Nat) (x : Sector) : State :=
  if subTag ∈ s.outstanding then
    match tagOfSubTag subTag with
    | some t => s.routeReadSector t subTag k x
    | none => s.notify .protocolError
  else s.notify .protocolError

/-- The outbound side takes a held sector: it leaves the part at its command offset and is counted as passed; with the
segment's completion already arrived and no sector left to pass, the segment finishes (R33, R37). -/
def State.passSector (s : State) (t : Tag) (g : Segment) (h : HeldSector) : State :=
  let s' := ({ s with readHeld := s.readHeld.erase h }.updateSegment t g.subTag Segment.pass).sendUp
    (.readData t.val (g.offset + h.offset) h.data)
  if g.arrived.isSome ∧ g.unpassed ≤ 1 then s'.finishSegment t g.pass else s'

/-- The first held sector of a sub-tag at a segment offset. Where the back end has delivered two at one offset, the manual fixes
no order between them (R33): the model passes the older first (DESIGN CHOICE, notes/assumptions/41.md). -/
def heldAt (subTag k : Nat) (hs : List HeldSector) : Option HeldSector :=
  hs.find? fun h => decide (h.subTag = subTag) && decide (h.offset = k)

/-- A held read sector passes upstream (R33, R37). Where none is held at that place there is nothing to pass. -/
def State.readSectorPasses (s : State) (subTag k : Nat) : State :=
  match heldAt subTag k s.readHeld, tagOfSubTag subTag with
  | some h, some t =>
      match s.table[t].segment? subTag with
      | some g => s.passSector t g h
      | none => s
  | _, _ => s

/-! ## Write data (R32, R39) -/

/-- Segment offset `k` of a write segment has been sent downstream (R39). -/
def Segment.send (k : Nat) (g : Segment) : Segment := { g with sent := insertNat k g.sent }

/-- The Downstream Port takes the oldest write sector held for a sub-tag (R32). Where none is held there is nothing to
send. -/
def State.writeSectorGoes (s : State) (subTag : Nat) : State :=
  match s.writeHeld.find? fun h => decide (h.subTag = subTag), tagOfSubTag subTag with
  | some h, some t =>
      ({ s with writeHeld := s.writeHeld.erase h }.updateSegment t subTag (Segment.send h.offset)).sendDown
        (.writeData subTag h.offset h.data)
  | _, _ => s

/-- A write sector at segment offset `k` is owed downstream as zeros for a struck segment: the segment is unfinished and
the offset was not sent (R39). -/
def Entry.owesZero (e : Entry) (g : Segment) (k : Nat) : Bool :=
  (decide (e.state = .aborting) || decide (e.state = .orphaned)) && decide (e.kind = some .write) && g.status.isNone &&
    decide (k < g.count) && !g.sent.contains k

/-- The Downstream Port takes a sector of zeros owed for a struck segment (R39). Where none is owed at that place there is
nothing to send. A SELF TEST's test, while which the Cipher Unit processes no data (R41), does not keep the zeros from going: they
are not enciphered (DESIGN CHOICE, notes/assumptions/49.md). -/
def State.zeroSectorGoes (s : State) (subTag k : Nat) : State :=
  match tagOfSubTag subTag with
  | some t =>
      match s.table[t].segment? subTag with
      | some g =>
          if s.table[t].owesZero g k then
            (s.updateSegment t subTag (Segment.send k)).sendDown (.writeData subTag k zeroSector)
          else s
      | none => s
  | none => s

/-! ## Downstream completions (R50) -/

/-- The status of a downstream completion has arrived for a segment (R37). -/
def Segment.arrive (st : Status) (g : Segment) : Segment := { g with arrived := some st }

/-- An entry keeps the identity block of its IDENTIFY's completion (R50). -/
def Entry.keepIdentity (e : Entry) (x : Sector) : Entry :=
  if e.kind = some .identify then { e with identity := some x } else e

/-- A downstream completion for an unfinished segment: its status has arrived, and the segment finishes, unless its entry is
FORWARDED and a sector it delivered has still to pass (R37, R50). -/
def State.segmentCompletion (s : State) (t : Tag) (g : Segment) (st : Status) (x : Sector) : State :=
  let s' := s.setEntry t ((s.table[t].updateSegment g.subTag (Segment.arrive st)).keepIdentity x)
  if s.table[t].state = .forwarded ∧ 0 < g.unpassed then s' else s'.finishSegment t (g.arrive st)

/-- A downstream completion on an outstanding sub-tag of the Admission Unit (R50). -/
def State.routeCompletion (s : State) (subTag : Nat) (st : Status) (x : Sector) : State :=
  match tagOfSubTag subTag with
  | none => s.stepCompletion subTag st
  | some t =>
      match s.table[t].segment? subTag with
      | some g => s.segmentCompletion t g st x
      | none => s

/-- A downstream completion (R50). -/
def State.takeCompletion (s : State) (subTag : Nat) (code : Byte) (x : Sector) : State :=
  if subTag ∈ s.outstanding then
    { s with outstanding := removeNat subTag s.outstanding }.routeCompletion subTag (backEndStatus code) x
  else s.notify .protocolError

end Sys2Proof.Machine
end

