-- ==== Sys2Proof/Machine/Capsules.lean ====
section
/-! DEFINITION. Machine/Capsules.lean: the meanings of the tagged capsules and of the notices on the capsule lane. -/

namespace Sys2Proof.Machine

/-- READ: offered on the capsule lane, and when taken admitted through the stages of chapter 2 (R23, R42). -/
def execRead (tag : Byte) (lba : BitVec 48) (count : BitVec 16) (s : State) : Host.Outcome State Fault Refusal :=
  .next (s.offer ⟨Kind.code .read, tag, count, lba, []⟩)

/-- WRITE: offered on the capsule lane, and when taken admitted through the stages of chapter 2 (R23, R42). -/
def execWrite (tag : Byte) (lba : BitVec 48) (count : BitVec 16) (s : State) : Host.Outcome State Fault Refusal :=
  .next (s.offer ⟨Kind.code .write, tag, count, lba, []⟩)

/-- DEALLOCATE: resolved, locked and bound as a WRITE (R35). -/
def execDeallocate (tag : Byte) (lba : BitVec 48) (count : BitVec 16) (s : State) : Host.Outcome State Fault Refusal :=
  .next (s.offer ⟨Kind.code .deallocate, tag, count, lba, []⟩)

/-- FLUSH (R36). -/
def execFlush (tag : Byte) (s : State) : Host.Outcome State Fault Refusal :=
  .next (s.offer (.plain (Kind.code .flush) tag []))

/-- IDENTIFY (R17, R36). -/
def execIdentify (tag : Byte) (s : State) : Host.Outcome State Fault Refusal :=
  .next (s.offer (.plain (Kind.code .identify) tag []))

/-- CONTROL with its envelope (R48, R58). -/
def execControl (tag : Byte) (envelope : List Byte) (s : State) : Host.Outcome State Fault Refusal :=
  .next (s.offer (.plain (Kind.code .control) tag envelope))

/-- A capsule whose kind byte names no kind (R45). -/
def execUndefinedKindCapsule (kind tag : Byte) (s : State) : Host.Outcome State Fault Refusal :=
  .next (s.offer (.plain kind tag []))

/-- LINK RESET (R14, R55, R178). -/
def execLinkReset (s : State) : Host.Outcome State Fault Refusal :=
  .next s.offerLinkReset

/-- POWER ENTER (R55, R170). -/
def execPowerEnter (s : State) : Host.Outcome State Fault Refusal :=
  .next (s.offer (.plain (Notice.code .powerEnter) 0 []))

/-- POWER EXIT (R55, R175). -/
def execPowerExit (s : State) : Host.Outcome State Fault Refusal :=
  .next (s.offer (.plain (Notice.code .powerExit) 0 []))

end Sys2Proof.Machine
end

