-- ==== Sys2Proof/Machine/Control.lean ====
section
/-! DEFINITION. Machine/Control.lean: the meanings of the control requests. Each is a CONTROL capsule that carries the request in its envelope
(R60); what serving it does stands in Machine/Requests.lean and Machine/Channel.lean. -/

namespace Sys2Proof.Machine

/-- QUERY STATE (R128): its CONTROL capsule is offered on the capsule lane; the request waits, enters service and is served (R48, R121). -/
def execQueryState (tag : Byte) (auth : AuthBlock) (s : State) : Host.Outcome State Fault Refusal :=
  .next (s.offer (.request tag auth .queryState))

/-- QUERY RANGES (R131, R132): its CONTROL capsule is offered on the capsule lane; the request waits, enters service and is served (R48, R121). -/
def execQueryRanges (tag : Byte) (auth : AuthBlock) (s : State) : Host.Outcome State Fault Refusal :=
  .next (s.offer (.request tag auth .queryRanges))

/-- QUERY CREDENTIALS (R133): its CONTROL capsule is offered on the capsule lane; the request waits, enters service and is served (R48, R121). -/
def execQueryCredentials (tag : Byte) (auth : AuthBlock) (s : State) : Host.Outcome State Fault Refusal :=
  .next (s.offer (.request tag auth .queryCredentials))

/-- SET ATTENTION (R130): its CONTROL capsule is offered on the capsule lane; the request waits, enters service and is served (R48, R121). -/
def execSetAttention (tag : Byte) (auth : AuthBlock) (s : State) : Host.Outcome State Fault Refusal :=
  .next (s.offer (.request tag auth .setAttention))

/-- SELF TEST (R139): its CONTROL capsule is offered on the capsule lane; the request waits, enters service and is served (R48, R121). -/
def execSelfTest (tag : Byte) (auth : AuthBlock) (s : State) : Host.Outcome State Fault Refusal :=
  .next (s.offer (.request tag auth .selfTest))

/-- TAKE OWNERSHIP (R114): its CONTROL capsule is offered on the capsule lane; the request waits, enters service and is served (R48, R121). -/
def execTakeOwnership (tag : Byte) (auth : AuthBlock) (newSecret : Secret) (s : State) : Host.Outcome State Fault Refusal :=
  .next (s.offer (.request tag auth (.takeOwnership newSecret)))

/-- PRESENT PLATFORM (R113): its CONTROL capsule is offered on the capsule lane; the request waits, enters service and is served (R48, R121). -/
def execPresentPlatform (tag : Byte) (auth : AuthBlock) (token : Token) (s : State) : Host.Outcome State Fault Refusal :=
  .next (s.offer (.request tag auth (.presentPlatform token)))

/-- UNLOCK (R108): its CONTROL capsule is offered on the capsule lane; the request waits, enters service and is served (R48, R121). -/
def execUnlock (tag : Byte) (auth : AuthBlock) (handover : Byte) (s : State) : Host.Outcome State Fault Refusal :=
  .next (s.offer (.request tag auth (.unlock handover)))

/-- SET CREDENTIAL (R115): its CONTROL capsule is offered on the capsule lane; the request waits, enters service and is served (R48, R121). -/
def execSetCredential (tag : Byte) (auth : AuthBlock) (target kind state : Byte) (secret : Secret) (reveal : List Byte) (s : State) : Host.Outcome State Fault Refusal :=
  .next (s.offer (.request tag auth (.setCredential target kind state secret reveal)))

/-- CHANGE SECRET (R117): its CONTROL capsule is offered on the capsule lane; the request waits, enters service and is served (R48, R121). -/
def execChangeSecret (tag : Byte) (auth : AuthBlock) (newSecret : Secret) (s : State) : Host.Outcome State Fault Refusal :=
  .next (s.offer (.request tag auth (.changeSecret newSecret)))

/-- LOCK (R71): its CONTROL capsule is offered on the capsule lane; the request waits, enters service and is served (R48, R121). -/
def execLock (tag : Byte) (auth : AuthBlock) (ranges : List Byte) (s : State) : Host.Outcome State Fault Refusal :=
  .next (s.offer (.request tag auth (.lock ranges)))

/-- SET LOCKS (R73): its CONTROL capsule is offered on the capsule lane; the request waits, enters service and is served (R48, R121). -/
def execSetLocks (tag : Byte) (auth : AuthBlock) (entries : List LockEntry) (s : State) : Host.Outcome State Fault Refusal :=
  .next (s.offer (.request tag auth (.setLocks entries)))

/-- END SESSION (R74): its CONTROL capsule is offered on the capsule lane; the request waits, enters service and is served (R48, R121). -/
def execEndSession (tag : Byte) (auth : AuthBlock) (s : State) : Host.Outcome State Fault Refusal :=
  .next (s.offer (.request tag auth .endSession))

/-- DEFINE RANGE (R18): its CONTROL capsule is offered on the capsule lane; the request waits, enters service and is served (R48, R121). -/
def execDefineRange (tag : Byte) (auth : AuthBlock) (index flags lockOn : Byte) (start length : BitVec 48) (s : State) : Host.Outcome State Fault Refusal :=
  .next (s.offer (.request tag auth (.defineRange index flags lockOn start length)))

/-- DELETE RANGE (R21): its CONTROL capsule is offered on the capsule lane; the request waits, enters service and is served (R48, R121). -/
def execDeleteRange (tag : Byte) (auth : AuthBlock) (index : Byte) (s : State) : Host.Outcome State Fault Refusal :=
  .next (s.offer (.request tag auth (.deleteRange index)))

/-- IMAGE WRITE ENABLE (R138): its CONTROL capsule is offered on the capsule lane; the request waits, enters service and is served (R48, R121). -/
def execImageWriteEnable (tag : Byte) (auth : AuthBlock) (s : State) : Host.Outcome State Fault Refusal :=
  .next (s.offer (.request tag auth .imageWriteEnable))

/-- SET POLICY (R134): its CONTROL capsule is offered on the capsule lane; the request waits, enters service and is served (R48, R121). -/
def execSetPolicy (tag : Byte) (auth : AuthBlock) (freeTries attemptLimit absenceLimit enclosure depth : Byte) (s : State) : Host.Outcome State Fault Refusal :=
  .next (s.offer (.request tag auth (.setPolicy freeTries attemptLimit absenceLimit enclosure depth)))

/-- BIND PLATFORM (R136): its CONTROL capsule is offered on the capsule lane; the request waits, enters service and is served (R48, R121). -/
def execBindPlatform (tag : Byte) (auth : AuthBlock) (policy : Byte) (token : Token) (s : State) : Host.Outcome State Fault Refusal :=
  .next (s.offer (.request tag auth (.bindPlatform policy token)))

/-- FINALIZE (R137): its CONTROL capsule is offered on the capsule lane; the request waits, enters service and is served (R48, R121). -/
def execFinalize (tag : Byte) (auth : AuthBlock) (s : State) : Host.Outcome State Fault Refusal :=
  .next (s.offer (.request tag auth .finalize))

/-- ERASE RANGE (R162): its CONTROL capsule is offered on the capsule lane; the request waits, enters service and is served (R48, R121). -/
def execEraseRange (tag : Byte) (auth : AuthBlock) (index : Byte) (s : State) : Host.Outcome State Fault Refusal :=
  .next (s.offer (.request tag auth (.eraseRange index)))

/-- WIPE (R142): its CONTROL capsule is offered on the capsule lane; the request waits, enters service and is served (R48, R121). -/
def execWipe (tag : Byte) (auth : AuthBlock) (s : State) : Host.Outcome State Fault Refusal :=
  .next (s.offer (.request tag auth .wipe))

end Sys2Proof.Machine
end

