-- ==== Sys2Proof/Machine/DataPath.lean ====
section
/-! DEFINITION. Machine/DataPath.lean: the meanings of the sectors and completions of the two ports. -/

namespace Sys2Proof.Machine

/-- A write data sector offered on the data lane (R43). -/
def execWriteDataSector (tag : Byte) (offset : Nat) (data : Sector) (s : State) : Host.Outcome State Fault Refusal :=
  .next (s.offerSector ⟨tag, offset, data⟩)

/-- A read data sector from the back end (R51). -/
def execReadDataSector (subTag : Byte) (offset : Nat) (data : Sector) (s : State) : Host.Outcome State Fault Refusal :=
  .next (s.event fun u => u.takeReadSector subTag.toNat offset data)

/-- A deciphered read sector passes upstream (R33, R37). -/
def execReadSectorPassedUpstream (subTag : Byte) (offset : Nat) (s : State) : Host.Outcome State Fault Refusal :=
  .next (s.event fun u => u.readSectorPasses subTag.toNat offset)

/-- A sector of zeros owed for a struck segment goes downstream (R39). -/
def execZeroWriteSectorSent (subTag : Byte) (offset : Nat) (s : State) : Host.Outcome State Fault Refusal :=
  .next (s.event fun u => u.zeroSectorGoes subTag.toNat offset)

/-- A downstream completion (R50). -/
def execDownstreamCompletion (subTag status : Byte) (identity : Sector) (s : State) : Host.Outcome State Fault Refusal :=
  .next (s.event fun u => u.takeCompletion subTag.toNat status identity)

/-- The Downstream Port takes a held write sector (R32). -/
def execWriteSectorSentDownstream (subTag : Byte) (s : State) : Host.Outcome State Fault Refusal :=
  .next (s.event fun u => u.writeSectorGoes subTag.toNat)

end Sys2Proof.Machine
end

