-- ==== Sys2Proof/Machine/Units.lean ====
section
/-! DEFINITION. Machine/Units.lean: the meanings of the events of the part's own units and pins. -/

namespace Sys2Proof.Machine

/-- A running back-off timer counts down, and expires at the end of its last second (R103). Without power no time is counted
(R165). -/
def State.countsDown (s : State) : State :=
  if s.power = .off then s
  else
    match s.backoff with
    | none => s
    | some n => if n ≤ 1 then s.backoffExpires else { s with backoff := some (n - 1) }

/-- A second of the part's own time passes: a response that has yet to be handed out is handed out (R14), and the back-off timer
counts down (R103). -/
def State.second (s : State) : State := s.handedOut.countsDown

/-- The record write in progress completes (R87). With none in progress nothing happens. -/
def execStoreWriteCompletion (s : State) : Host.Outcome State Fault Refusal :=
  .next (s.event fun u =>
    match u.writer.current with
    | some w => u.writeCompletes w
    | none => u)

/-- The back-off timer's period elapses (R103). A stopped timer does not expire. -/
def execBackoffExpiry (s : State) : Host.Outcome State Fault Refusal :=
  .next (s.event fun u => if u.backoff.isSome then u.backoffExpires else u)

/-- The enclosure line changes from CLOSED to OPEN (R144). -/
def execEnclosureOpening (s : State) : Host.Outcome State Fault Refusal :=
  .next (s.event fun u => if u.level = .closed then u.opening else u)

/-- The enclosure line changes from OPEN to CLOSED: only the sampled level is updated (R144). -/
def execEnclosureClosing (s : State) : Host.Outcome State Fault Refusal :=
  .next (s.event fun u => { u with level := .closed })

/-- Power-good is asserted (R166). Where the part is powered already nothing happens. -/
def execPowerGood (level : Level) (s : State) : Host.Outcome State Fault Refusal :=
  .next (if s.power = .off then s.powerUp level else s)

/-- The known-answer test ends: the unit has enciphered and deciphered the vector, soundly or with the defects given
(R40, R140). -/
def execSelfTestEnd (enciphered deciphered : Option Sector) (s : State) : Host.Outcome State Fault Refusal :=
  .next (s.event fun u => u.testEnds (u.vector.passes enciphered deciphered))

/-- Power is lost (R165), the record of a write in progress left as `cut` says (R90, R181). -/
def execPowerLoss (cut : WriteCut) (s : State) : Host.Outcome State Fault Refusal :=
  .next (if s.power = .off then s else s.losePower cut)

end Sys2Proof.Machine
end

