-- ==== Sys2Proof/Machine/Dispatch.lean ====
section
/-! DEFINITION. Machine/Dispatch.lean: the meaning of each command. -/

namespace Sys2Proof.Machine

def exec (i : Instr) (s : State) : Host.Outcome State Fault Refusal :=
  match i with
  | .read tag lba count => Sys2Proof.Machine.execRead tag lba count s
  | .write tag lba count => Sys2Proof.Machine.execWrite tag lba count s
  | .deallocate tag lba count => Sys2Proof.Machine.execDeallocate tag lba count s
  | .flush tag => Sys2Proof.Machine.execFlush tag s
  | .identify tag => Sys2Proof.Machine.execIdentify tag s
  | .control tag envelope => Sys2Proof.Machine.execControl tag envelope s
  | .undefinedKindCapsule kind tag => Sys2Proof.Machine.execUndefinedKindCapsule kind tag s
  | .writeDataSector tag offset data => Sys2Proof.Machine.execWriteDataSector tag offset data s
  | .readDataSector subTag offset data => Sys2Proof.Machine.execReadDataSector subTag offset data s
  | .readSectorPassedUpstream subTag offset => Sys2Proof.Machine.execReadSectorPassedUpstream subTag offset s
  | .zeroWriteSectorSent subTag offset => Sys2Proof.Machine.execZeroWriteSectorSent subTag offset s
  | .downstreamCompletion subTag status identity => Sys2Proof.Machine.execDownstreamCompletion subTag status identity s
  | .linkReset => Sys2Proof.Machine.execLinkReset s
  | .powerEnter => Sys2Proof.Machine.execPowerEnter s
  | .powerExit => Sys2Proof.Machine.execPowerExit s
  | .queryState tag auth => Sys2Proof.Machine.execQueryState tag auth s
  | .queryRanges tag auth => Sys2Proof.Machine.execQueryRanges tag auth s
  | .queryCredentials tag auth => Sys2Proof.Machine.execQueryCredentials tag auth s
  | .setAttention tag auth => Sys2Proof.Machine.execSetAttention tag auth s
  | .selfTest tag auth => Sys2Proof.Machine.execSelfTest tag auth s
  | .takeOwnership tag auth newSecret => Sys2Proof.Machine.execTakeOwnership tag auth newSecret s
  | .presentPlatform tag auth token => Sys2Proof.Machine.execPresentPlatform tag auth token s
  | .unlock tag auth handover => Sys2Proof.Machine.execUnlock tag auth handover s
  | .setCredential tag auth target kind state secret reveal => Sys2Proof.Machine.execSetCredential tag auth target kind state secret reveal s
  | .changeSecret tag auth newSecret => Sys2Proof.Machine.execChangeSecret tag auth newSecret s
  | .lock tag auth ranges => Sys2Proof.Machine.execLock tag auth ranges s
  | .setLocks tag auth entries => Sys2Proof.Machine.execSetLocks tag auth entries s
  | .endSession tag auth => Sys2Proof.Machine.execEndSession tag auth s
  | .defineRange tag auth index flags lockOn start length => Sys2Proof.Machine.execDefineRange tag auth index flags lockOn start length s
  | .deleteRange tag auth index => Sys2Proof.Machine.execDeleteRange tag auth index s
  | .imageWriteEnable tag auth => Sys2Proof.Machine.execImageWriteEnable tag auth s
  | .setPolicy tag auth freeTries attemptLimit absenceLimit enclosure depth => Sys2Proof.Machine.execSetPolicy tag auth freeTries attemptLimit absenceLimit enclosure depth s
  | .bindPlatform tag auth policy token => Sys2Proof.Machine.execBindPlatform tag auth policy token s
  | .finalize tag auth => Sys2Proof.Machine.execFinalize tag auth s
  | .eraseRange tag auth index => Sys2Proof.Machine.execEraseRange tag auth index s
  | .wipe tag auth => Sys2Proof.Machine.execWipe tag auth s
  | .storeWriteCompletion => Sys2Proof.Machine.execStoreWriteCompletion s
  | .backoffExpiry => Sys2Proof.Machine.execBackoffExpiry s
  | .enclosureOpening => Sys2Proof.Machine.execEnclosureOpening s
  | .enclosureClosing => Sys2Proof.Machine.execEnclosureClosing s
  | .powerGood level => Sys2Proof.Machine.execPowerGood level s
  | .selfTestEnd enciphered deciphered => Sys2Proof.Machine.execSelfTestEnd enciphered deciphered s
  | .powerLoss cut => Sys2Proof.Machine.execPowerLoss cut s
  | .writeSectorSentDownstream subTag => Sys2Proof.Machine.execWriteSectorSentDownstream subTag s

end Sys2Proof.Machine
end

