-- ==== Sys2Proof/Machine/Wire.lean ====
section
/-! DEFINITION. Machine/Wire.lean: the bytes of what the ports send, for the messages whose layout section 3.10 gives: an
upstream completion, an acknowledgement, a downstream command and a forwarded notice. A data sector has no header there. -/

namespace Sys2Proof.Machine

/-- The bytes of a control response's fields. The manual names the fields of each response and gives no byte layout of them
(section 3.10), so the bytes are a free value (notes/assumptions/20.md). -/
opaque Config.responseBytes : Response → List Byte

/-- The fields of a control response as bytes, 0..1020; an answer without fields has none (section 3.10). -/
def Response.bytes : Response → List Byte
  | .noFields => []
  | f => (Config.responseBytes f).take 1020

/-- A control response envelope: the code echoed, the field length and the fields (section 3.10). -/
def ResponseEnvelope.bytes (e : ResponseEnvelope) : List Byte :=
  leBytes 2 e.code ++ leBytes 2 e.fields.bytes.length ++ e.fields.bytes

/-- The envelope of a completion; a completion of any other kind than CONTROL, and one refused before its request entered
service, has none (R57, R120). -/
def responseBytes : Option ResponseEnvelope → List Byte
  | none => []
  | some e => e.bytes

/-- A sector as its 512 bytes, block by block (R31). -/
def sectorBytes (x : Sector) : List Byte := x.toList.flatMap fun b => leBytes 16 b.toNat

/-- The identity block that follows an IDENTIFY completion (section 3.10). -/
def identityBytes : Option Sector → List Byte
  | none => []
  | some x => sectorBytes x

/-- The 16-byte header of a completion or an acknowledgement (section 3.10, R57). -/
def completionHeader (kind tag : Byte) (status : Status) (capacity envelopeLength : Nat) : List Byte :=
  [kind, tag, status.code, 0] ++ leBytes 6 capacity ++ [0, 0] ++ leBytes 4 envelopeLength

/-- The bytes of a completion or an acknowledgement; none for a read data sector. -/
def UpMessage.bytes : UpMessage → Option (List Byte)
  | .completion kind tag st capacity response identity =>
      some (completionHeader kind tag st capacity (responseBytes response).length ++ responseBytes response ++
        identityBytes identity)
  | .acknowledgement n st => some (completionHeader (n.code + 128) 0 st 0 0)
  | .readData .. => none

/-- The bytes of a downstream command or a forwarded notice; none for a write data sector (R57). A forwarded notice has no
sub-tag (R49, R55), and the manual gives its header's tag, count and LBA bytes no value: the model sends 0 in them (DESIGN
CHOICE, notes/assumptions/43.md). -/
def DownMessage.bytes : DownMessage → Option (List Byte)
  | .command k subTag lba count =>
      some (Capsule.bytes ⟨k.code, BitVec.ofNat 8 subTag, BitVec.ofNat 16 count, BitVec.ofNat 48 lba, []⟩)
  | .notice n => some (Capsule.bytes (.plain n.code 0 []))
  | .writeData .. => none

end Sys2Proof.Machine
end

