-- ==== Sys2Proof/Safety.lean ====
section
/-! DEFINITION. Safety.lean: the conditions on a state in which statements about it are made, and the laws that every run
keeps. -/

namespace Sys2Proof.Machine

/-! ## Running commands -/

/-- Several commands, one after another, stopping at the first that does not answer a next state. -/
def runs (s : State) : List Instr → Host.Outcome State Fault Refusal
  | [] => .next s
  | c :: cs =>
      match exec c s with
      | .next t => runs t cs
      | .fault r => .fault r
      | .refused r => .refused r

/-! ## Conditions -/

/-- No follow-up of an event is left to be made. -/
abbrev State.Settled (s : State) : Prop := s.power = .off ∨ s.settleStep = none

/-- The powered part past its power-up sequence, with nothing on its lanes, a free control channel, no session end pending
and no POWER ENTER held. -/
abbrev State.Calm (s : State) : Prop :=
  s.power = .running ∧ s.service = none ∧ s.queue = [] ∧ s.lane = [] ∧ s.dataLane = [] ∧ s.sessionEnd = false ∧
    s.heldPowerEnter = false

/-- Calm, but for the place between power-good and power loss: nothing on the lanes and a free control channel. -/
abbrev State.Quiet (s : State) : Prop :=
  s.service = none ∧ s.queue = [] ∧ s.lane = [] ∧ s.dataLane = [] ∧ s.sessionEnd = false ∧ s.heldPowerEnter = false

/-- A request keeps the service place, whatever it awaits, but for a running test, under which the lanes do not take, and a
response about to go out: the lanes are empty, and neither a hold of the channel nor that of a POWER ENTER has ended. -/
abbrev State.Serving (s : State) : Prop :=
  s.power = .running ∧ s.service.isSome = true ∧ s.testRunning = false ∧ s.owesAnswer = false ∧ s.lane = [] ∧
    s.dataLane = [] ∧ s.channelReady = false ∧ s.powerEnterReady = false

/-- A request in service awaits a record write (R89). -/
def Stage.awaitsWrite : Stage → Bool
  | .gateCount | .gateReset | .ownerWrap | .takeOwnership | .lastWrite _ | .rangeLayout _ | .rangeOwner _ | .rangeUser _ => true
  | .holdLock _ | .holdEndSession | .holdErase _ | .holdTest | .testing | .answering _ => false

/-- The powered part with empty lanes, no session end pending and no POWER ENTER held, the request `v` in service with a
response that stands. -/
abbrev State.Busy (s : State) (v : Service) : Prop :=
  s.power = .running ∧ s.service = some v ∧ v.discard = false ∧ v.struck = false ∧ s.lane = [] ∧ s.dataLane = [] ∧
    s.sessionEnd = false ∧ s.heldPowerEnter = false

/-- The access states whose own rules decide what is served (R23, R122). -/
abbrev State.InService (s : State) : Prop :=
  s.access = .blank ∨ s.access = .locked ∨ s.access = .staged ∨ s.access = .opened

/-- A tag byte that names the tag `t`, whose entry is FREE (R46, R47). -/
abbrev State.FreeTag (s : State) (tag : Byte) (t : Tag) : Prop := tag.toNat = t.val ∧ s.table[t].state = .free

/-- The block names slot `i` and its request would pass every stage of the gate: no back-off, the slot not CORRUPT, the
secret verifies, the writer idle, and no range 0 wrap owed (R99 to R104, R151). -/
abbrev State.GateOpen (s : State) (auth : AuthBlock) (i : SlotIndex) : Prop :=
  auth.slot.toNat = i.val ∧ s.backoff = none ∧ s.copies.credentials[i].corrupt = false ∧
    (s.credential i).verifies auth.secret = true ∧ s.writer = ⟨none, []⟩ ∧ ¬ (i = 0 ∧ s.lacksGlobalWrap = true)

/-- A calm part, a FREE tag and an open gate. -/
abbrev State.Ready (s : State) (tag : Byte) (t : Tag) (auth : AuthBlock) (i : SlotIndex) : Prop :=
  s.Calm ∧ s.FreeTag tag t ∧ s.GateOpen auth i

/-! ## What a served request leaves -/

/-- What a request that passed the gate and was answered leaves behind it: both counts zero in the record and in the working
copy (R104), and its entry FREE (R121). -/
def State.granted (s : State) (t : Tag) : State :=
  { s with
    store := { s.store with counters := .intact Counters.zero }
    copies := { s.copies with counters := Counters.zero }
    table := s.table.set t Entry.free }

/-- The completion of a request has been handed out and its entry is FREE (R121). -/
def State.answered (s : State) (t : Tag) (st : Status) (code : Nat) (f : Response) : State :=
  { s with table := s.table.set t Entry.free, outbound := s.outbound ++ [controlCompletion t st code f] }

/-- A request that passed the gate has been answered (R104, R121). -/
def State.grantedAnswer (s : State) (t : Tag) (st : Status) (code : Nat) (f : Response) : State :=
  { s.granted t with outbound := s.outbound ++ [controlCompletion t st code f] }

/-- The least field length of the request of a code, given the fields: the widths of its fixed fields and of the entries its
count byte names (R60); 0 for a request without fields and for a code that names none. -/
def minimumFieldLength (code : Nat) (fields : List Byte) : Nat :=
  if code = 16 ∨ code = 20 then 32
  else if code = 17 then 64
  else if code = 18 ∨ code = 49 ∨ code = 80 then 1
  else if code = 19 then 36 + (byteAt fields 35).toNat
  else if code = 32 then 1 + (byteAt fields 0).toNat
  else if code = 33 then 1 + 3 * (byteAt fields 0).toNat
  else if code = 48 then 20
  else if code = 64 then 5
  else if code = 65 then 65
  else 0

/-- The entry of a CONTROL capsule that waits or is in service (R46, R48). -/
def Entry.ofControl : Entry := { Entry.free with kind := some .control, state := .control }

/-- The key slots after the segments `gs` have been bound: each slot's use count raised once for each segment that names it
(R30, R63). -/
def State.boundSlots (s : State) (gs : List Segment) : Vector KeySlot 16 :=
  Vector.ofFn fun r : RangeIndex =>
    { s.slots[r] with uses := s.slots[r].uses + (gs.filter fun g => decide (g.slot = some r)).length }

/-- The state after the segments `gs` of a capsule of kind `k` under `t` have been bound and sent (R30). -/
def State.bound (s : State) (t : Tag) (k : Kind) (v c : Nat) (gs : List Segment) (capacity : Option Nat) : State :=
  { s with
    table := s.table.set t ⟨some k, .forwarded, v, c, gs, capacity, none, none⟩
    slots := s.boundSlots gs
    outstanding := gs.foldl (fun o g => insertNat g.subTag o) s.outstanding
    downstream := s.downstream ++ gs.map fun g => .command k g.subTag g.lba g.count }

/-- The state after a capsule has been completed at once with a status alone (R23). -/
def State.completed (s : State) (k : Byte) (t : Tag) (st : Status) : State :=
  { s with outbound := s.outbound ++ [.completion k (BitVec.ofNat 8 t.val) st 0 none none] }

/-- The state after a READ, WRITE or DEALLOCATE whose stages gave `r` has been answered or bound (R23, R30). -/
def State.addressed (s : State) (t : Tag) (k : Kind) (v c : Nat) : Resolution → State
  | .refused st => s.completed k.code t st
  | .pieces ps => s.bound t k v c (segmentsOf t ((s.view.map View.kind).getD .empty) 0 ps) none

/-- The entries of a view stand one after another from visible LBA `start` (R5). -/
def runningFrom : Nat → List ViewEntry → Bool
  | _, [] => true
  | start, e :: es => decide (e.visible = start) && runningFrom (start + e.length) es

/-- An entry of the table with the segment that bears a sub-tag rewritten (R46). -/
def State.withSegment (s : State) (t : Tag) (subTag : Nat) (f : Segment → Segment) : State :=
  { s with table := s.table.set t (s.table[t].updateSegment subTag f) }

/-- A notice has been set and nothing else changed (R126). -/
def State.noticed (s : State) (n : NoticeSet → NoticeSet) : State := { s with notices := n s.notices }

/-- The notice PROTOCOL_ERROR joins the set (R126). -/
def NoticeSet.withProtocolError (n : NoticeSet) : NoticeSet := { n with protocolError := true }

/-- The slots with the use count of a segment's slot released; as they were for a segment without a slot (R37, R63). -/
def State.slotsReleased (s : State) (g : Segment) : Vector KeySlot 16 :=
  match g.slot with
  | some r => s.slots.set r s.slots[r].released
  | none => s.slots

/-- An entry whose segment of a sub-tag has finished with a status, an IDENTIFY keeping its identity block (R37, R50). -/
def Entry.withFinished (e : Entry) (subTag : Nat) (st : Status) (x : Sector) : Entry :=
  { e with
    segments := e.segments.map fun g => if g.subTag = subTag then { g with arrived := some st, status := some st } else g
    identity := if e.kind = some .identify then some x else e.identity }

/-- A sub-tag has left the outstanding set and what was held of its write data is dropped (R37, R49). -/
def State.subTagFreed (s : State) (subTag : Nat) : State :=
  { s with
    outstanding := s.outstanding.filter fun n => decide (n ≠ subTag)
    writeHeld := s.writeHeld.filter fun h => decide (h.subTag ≠ subTag) }

/-- A downstream completion of code `code` on `subTag` ends `g`, the last unfinished segment of the FORWARDED entry of `t`, with
status `st` (R37, R38, R50). -/
abbrev State.EndsEntry (s : State) (subTag code : Byte) (t : Tag) (g : Segment) (st : Status) : Prop :=
  subTag.toNat ∈ s.outstanding ∧ subTag.toNat / 2 = t.val ∧ s.table[t].state = .forwarded ∧
    s.table[t].segment? subTag.toNat = some g ∧ g.unpassed = 0 ∧
    ((code = 0 ∧ st = .good) ∨ (code = 5 ∧ st = .aborted) ∨ (code ≠ 0 ∧ code ≠ 5 ∧ st = .mediaError)) ∧
    ∀ u ∈ s.table[t].segments, u.subTag ≠ subTag.toNat → u.status.isSome = true

/-- The state after the last unfinished segment of a FORWARDED entry has finished: its use count is released, its sub-tag freed,
the entry's completion handed out and the entry FREE (R37, R38). -/
def State.entryEnded (s : State) (subTag : Byte) (t : Tag) (g : Segment) (st : Status) (x : Sector) : State :=
  { s.subTagFreed subTag.toNat with
    table := s.table.set t Entry.free
    slots := s.slotsReleased g
    outbound := s.outbound ++
      [(s.table[t].withFinished subTag.toNat st x).completion t
        (mergedStatus (s.table[t].withFinished subTag.toNat st x).segments)] }

/-- The locks with those of the ranges for which `p` holds set (R66). -/
def State.locksBoth (s : State) (p : RangeIndex → Bool) : Vector Locks 16 :=
  Vector.ofFn fun r : RangeIndex => if p r then Locks.both else s.locks[r]

/-- The slots with the effect of both-locking the ranges for which `p` holds (R66). -/
def State.slotsBoth (s : State) (p : RangeIndex → Bool) : Vector KeySlot 16 :=
  Vector.ofFn fun r : RangeIndex => if p r then s.slots[r].bothLocked else s.slots[r]

/-- An entry after a link reset (R53): a FORWARDED entry is ORPHANED, or FREE when the completions of all its segments had
arrived; an ABORTING one is ORPHANED; a CONTROL one is FREE; an ORPHANED or FREE one is as it was. -/
def Entry.afterLinkReset (e : Entry) : Entry :=
  match e.state with
  | .forwarded =>
      if e.segments.all fun g => g.status.isSome || g.arrived.isSome then Entry.free
      else { e with
        state := .orphaned
        segments := e.segments.map fun g => { g with status := g.status <|> g.arrived, unpassed := 0 } }
  | .aborting => { e with state := .orphaned }
  | .control => Entry.free
  | .free | .orphaned => e

/-- The unfinished segments of an entry that count in a slot's use count: those of a FORWARDED entry that name it (R63). -/
def Entry.usesOf (e : Entry) (r : RangeIndex) : Nat :=
  if e.state = .forwarded then (e.segments.filter fun g => g.status.isNone && decide (g.slot = some r)).length else 0

/-- The number of unfinished segments of FORWARDED entries that name a slot (R63). -/
def State.usesOf (s : State) (r : RangeIndex) : Nat := (allTags.map fun t => s.table[t].usesOf r).sum

/-- The state after a link reset has struck the Command Table (R53) and cleared the image write latch (R16). -/
def State.afterStrike (s : State) : State :=
  { s with
    table := Vector.ofFn fun t : Tag => s.table[t].afterLinkReset
    slots := Vector.ofFn fun r : RangeIndex => (KeySlot.released^[s.usesOf r]) s.slots[r]
    readHeld := []
    writeHeld := []
    latch := false }

/-- The state after a lock-on event has both-locked the ranges of a view that `holds` names (R69, R70). -/
def State.afterLockOn (s : State) (v : View) (holds : LockOn → Bool) : State :=
  { s with
    locks := s.locksBoth fun r => v.shows r && holds s.copies.layout[r].lockOn
    slots := s.slotsBoth fun r => v.shows r && holds s.copies.layout[r].lockOn
    notices := { s.notices with
      rangesLocked := s.notices.rangesLocked || allRanges.any fun r =>
        v.shows r && holds s.copies.layout[r].lockOn && decide (s.locks[r] ≠ Locks.both) } }

/-- A notice has been forwarded to the back end and acknowledged (R55). -/
def State.answeredNotice (s : State) (n : Notice) (st : Status) : State :=
  { s with
    downstream := s.downstream ++ [.notice n]
    outbound := s.outbound ++ [.acknowledgement n st] }

/-- A notice has been acknowledged and not forwarded (R55, R170). -/
def State.acknowledged (s : State) (n : Notice) (st : Status) : State :=
  { s with outbound := s.outbound ++ [.acknowledgement n st] }

/-- The part has entered DORMANT (R171, steps 2 to 6). -/
def State.asDormant (s : State) (resume : Access) : State :=
  { s with access := .dormant, resume := some resume, latch := false }.answeredNotice .powerEnter .good

/-- A credential record has been written: the store and the working copy hold it, and its CORRUPT mark is clear (R82, R87). -/
def State.withCredential (s : State) (i : SlotIndex) (c : Credential) : State :=
  { s with
    store := { s.store with credentials := s.store.credentials.set i (.intact c) }
    copies := { s.copies with credentials := s.copies.credentials.set i ⟨some c, false⟩ } }

/-- The layout record has been written; in LOCKED the current view is that of the new layout (R12, R87). -/
def State.withLayout (s : State) (l : Layout) : State :=
  { s with
    store := { s.store with layout := .intact l }
    copies := { s.copies with layout := l }
    view := if s.access = .locked then some l.imageView else s.view }

/-- The user records that a range request rewrites, in slot order (R20, R21, R163). -/
def State.usersNaming (s : State) (r : RangeIndex) : List SlotIndex := allSlots.filter fun i => s.userNames r i

/-- Each user record of `s` that names a range has been rewritten in `u` without its wraps of that range and without those stale
under the layout `l` (R20, R95). -/
def State.usersRewritten (u s : State) (l : Layout) (r : RangeIndex) : State :=
  (s.usersNaming r).foldl (fun w i => w.withCredential i (l.withoutRange r (s.credential i))) u

/-- The record writes of a range request on `s`, in their order: the layout, the owner record where it is rewritten, and the user
records that name the range in slot order (R20, R21, R96, R163). -/
def State.rangeWrites (s : State) (l : Layout) (r : RangeIndex) (owner : Option Credential) : List Content :=
  .layout l :: (owner.toList.map (.credential 0) ++
    (s.usersNaming r).map fun i => .credential i (l.withoutRange r (s.credential i)))

/-- From `a` on, when `n` record writes have completed, the request in service has the records `ws` written one at a time and in
this order, each begun as the one before it completes; at the last one's completion the writer is idle (R87, R96). -/
def State.WritesInOrder (a : State) (n : Nat) (ws : List Content) : Prop :=
  ∀ k, k ≤ ws.length → ∃ b, runs a (List.replicate (n + k) .storeWriteCompletion) = .next b ∧
    b.writer = ⟨ws[k]?.map fun c => ⟨c, [.channel]⟩, []⟩

/-- The policy record has been written (R87). -/
def State.withPolicy (s : State) (p : Policy) : State :=
  { s with store := { s.store with policy := .intact p }, copies := { s.copies with policy := p } }

/-- The counters record has been written (R87). -/
def State.withCounters (s : State) (c : Counters) : State :=
  { s with store := { s.store with counters := .intact c }, copies := { s.copies with counters := c } }

/-- The state after a purge that finds no entry FORWARDED (R68, R146). In DORMANT the access state stays, and WIPING becomes the
resume state (R161). -/
def State.purged (s : State) : State :=
  { s with
    slots := Vector.replicate 16 KeySlot.empty
    locks := Vector.replicate 16 Locks.both
    sessionEnd := false
    readHeld := []
    writeHeld := []
    backoff := none
    latch := false
    notices := { s.notices with wipeStarted := true }
    access := if s.access = .dormant then .dormant else .wiping
    resume := if s.access = .dormant then some .wiping else s.resume
    faultCause := none
    view := some View.empty
    pendingView := none }

/-- A wipe has been triggered that finds no entry FORWARDED: the purge, and the wipe record of phase PURGE being written
(R146, R147). -/
def State.wipeBegun (s : State) (r : Reason) (depth : Depth) (keepOwner : Bool) : State :=
  { s.purged with
    engine := ⟨some ⟨.purgeWrite, r, depth, keepOwner, 0, false⟩, s.engine.sanitize⟩
    writer := ⟨some ⟨.wipe ⟨.purge, some r, some depth, some keepOwner, none, none⟩, [.engine]⟩, []⟩ }

/-- Every range both-locked, with the effect on each slot (R66). -/
def State.allLocked (s : State) : State := { s with locks := s.locksBoth fun _ => true, slots := s.slotsBoth fun _ => true }

/-- The access state, in DORMANT the resume state, is LOCKED with the view of LOCKED (R11, R75, R76). -/
def State.inLocked (s : State) : State :=
  { s with
    access := if s.access = .dormant then .dormant else .locked
    resume := if s.access = .dormant then some .locked else s.resume
    view := some s.copies.layout.imageView, pendingView := none, sessionEnd := false }

/-- The range of a list of keys that a range's slot is loaded with, if any. -/
def keyFor (ks : List RangeKey) (r : RangeIndex) : Option RangeKey := ks.find? fun k => decide (k.range = r)

/-- The slots after the keys of a list have been loaded (R64, R65). -/
def State.slotsWith (s : State) (ks : List RangeKey) : Vector KeySlot 16 :=
  Vector.ofFn fun r : RangeIndex =>
    match keyFor ks r with
    | some k => ⟨.loaded, some k.key, some k.generation, 0⟩
    | none => s.slots[r]

/-- The locks after the keys of a list have been loaded: a range loaded has its read-lock clear and its write-lock as its
WRITE_PROTECTED flag is (R64, R65). -/
def State.locksWith (s : State) (ks : List RangeKey) (other : RangeIndex → Locks) : Vector Locks 16 :=
  Vector.ofFn fun r : RangeIndex => if (keyFor ks r).isSome then ⟨false, s.copies.layout[r].writeProtected⟩ else other r

/-! ## Laws that every step keeps -/

/-- The sub-tags outstanding stand in strictly ascending order, so that equal sets are equal lists (R49). -/
abbrev State.OutstandingSorted (s : State) : Prop := s.outstanding.Pairwise (· < ·)

/-- At most four requests wait (R120). -/
abbrev State.QueueBounded (s : State) : Prop := s.queue.length ≤ 4

/-- At most one write is queued for each record, and none behind an idle writer (R87, R88). -/
abbrev State.WriterLaw (s : State) : Prop :=
  (s.writer.queue.map fun w => w.content.record).Nodup ∧ (s.writer.current = none → s.writer.queue = [])

/-- A content that writes the counters record writes counts of 0..255 (R85). -/
def Content.countsBounded : Content → Bool
  | .counters c => c.legal
  | _ => true

/-- Both counts lie in 0..255 in the working copy and in every write requested (R85). -/
def State.CountsBounded (s : State) : Prop :=
  s.copies.counters.legal = true ∧ (∀ w ∈ s.writer.current, w.content.countsBounded = true) ∧
    ∀ w ∈ s.writer.queue, w.content.countsBounded = true

/-- The access states, in DORMANT the resume states, in which a session's keys may be held (R62). -/
def Access.holdsKeys : Access → Bool
  | .blank | .staged | .opened => true
  | .starting | .locked | .dormant | .wiping | .fault => false

/-- No slot holds a key (R62). -/
abbrev State.NoKeys (s : State) : Prop := ∀ r : RangeIndex, s.slots[r].state = .empty

/-- Before the last step of the power-up sequence there is no session, no request, no hold and no key, the access state has
not been entered, and the wipe that the Wipe Engine holds is the one the wipe record's working copy gives (R166, R167). -/
def State.StartingLaw (s : State) : Prop :=
  s.power ≠ .running →
    s.access = .starting ∧ s.service = none ∧ s.queue = [] ∧ s.sessionEnd = false ∧ s.heldPowerEnter = false ∧ s.NoKeys ∧
      (∀ j ∈ s.engine.job, j.stage = .recorded) ∧ s.engine.sanitize = none ∧ (s.power = .absence → s.engine.job = none) ∧
      ((∃ n, s.power = .scan n) ∨ s.power = .selfTest → (s.copies.wipe.phase = .none → s.engine.job = none) ∧
        (∀ w ∈ s.writer.current, ∀ x, w.content = .wipe x → x.phase ≠ .none) ∧
        ∀ w ∈ s.writer.queue, ∀ x, w.content = .wipe x → x.phase ≠ .none)

/-- While a wipe is in progress no slot holds a key, the access state is WIPING or FAULT, no session end is pending, and a
request in service has been struck or is the WIPE that resumes it (R105, R124, R141, R143, R160). -/
def State.WipeLaw (s : State) : Prop :=
  s.power = .running → s.engine.job.isSome = true →
    s.NoKeys ∧ (s.sessionAccess = .wiping ∨ s.sessionAccess = .fault) ∧ s.sessionEnd = false ∧
      ∀ v ∈ s.service, v.struck = true ∨ (v.request = .wipe ∧ v.stage ≠ .takeOwnership)

/-- A resume state is held in DORMANT only, is not DORMANT itself, and no POWER ENTER is held in DORMANT (R170, R171). -/
def State.DormantLaw (s : State) : Prop :=
  (s.access = .dormant ↔ s.resume.isSome = true) ∧ s.resume ≠ some .dormant ∧
    (s.access = .dormant → s.heldPowerEnter = false)

/-- Keys are held in a session only (R62), with what keeps it so. -/
def State.KeyLaw (s : State) : Prop :=
  s.DormantLaw ∧ s.StartingLaw ∧ s.WipeLaw ∧
    (s.sessionAccess.holdsKeys = false → s.NoKeys)

end Sys2Proof.Machine
end

