-- ==== Sys2Proof/Certificates/Slice0/Obligations.lean ====
section
/-! DEFINITION. Certificates/Slice0/Obligations.lean: the statements for the provers. Each docstring names the rules of the
manual that the statement is about; where it rests on a choice of the model it names the log entry. -/

open Sys2Proof Sys2Proof.Machine

/-! ## Byte layouts -/

/-- Every request that can be written reads back from its envelope: with each field at each value the envelope admits, and
the block of every slot byte that R59 admits (section 3.10, R59, R60). -/
def Obligations.EnvelopeDecodes : Prop :=
  ∀ (auth : AuthBlock) (r : Request) (slot : Option SlotIndex),
    r.wellFormed = true → blockSlot auth.slot = some slot →
      readEnvelope (envelopeOf auth r).length (keptEnvelope (envelopeOf auth r)) =
        some ⟨r, slot.map fun i => (i, auth.secret)⟩

/-- The bytes of a capsule read back as that capsule, with the bytes of the capsules behind it left over (section 3.10,
R57, R58). -/
def Obligations.CapsuleBytesDecode : Prop :=
  ∀ (c : Capsule) (rest : List Byte),
    (c.kind = Kind.code .control ∧ WellFormed.envelopeFits c.envelope = true) ∨
      (c.kind ≠ Kind.code .control ∧ c.envelope = []) →
    readCapsule (c.bytes ++ rest) = some (c, rest)

/-! ## One step -/

/-- A step takes the command at the front of the queue `pending` and runs it on the state with the rest of the queue. The queue is
the model's own field and no state of the part: the manual does not say how commands reach the part one after another (DESIGN
CHOICE, log entry 4). -/
def Obligations.StepRunsTheFrontCommand : Prop :=
  ∀ (c : Instr) (rest : List Instr) (s : State), s.pending = c :: rest → step s = exec c { s with pending := rest }

/-! ## Data capsules (sections 2.1 and 3.3) -/

/-- A READ, WRITE or DEALLOCATE taken on a FREE tag by a calm part in BLANK, LOCKED, STAGED or OPEN: the outcome of the
stages decides, and the next state is the one in which it has been completed with the refusal alone, or bound (R23, R30). -/
def Obligations.DataCapsuleGoesByItsStages : Prop :=
  ∀ (s : State) (tag : Byte) (t : Tag) (lba : BitVec 48) (count : BitVec 16),
    s.Calm → s.FreeTag tag t → s.InService →
      exec (.read tag lba count) s =
        .next (s.addressed t .read lba.toNat count.toNat (s.resolve .read lba.toNat count.toNat)) ∧
      exec (.write tag lba count) s =
        .next (s.addressed t .write lba.toNat count.toNat (s.resolve .write lba.toNat count.toNat)) ∧
      exec (.deallocate tag lba count) s =
        .next (s.addressed t .deallocate lba.toNat count.toNat (s.resolve .deallocate lba.toNat count.toNat))

/-- The count check: 0 and above 1024 are refused INVALID, whatever the address and the view; a count of 1..1024 goes on to
the stages that follow; and FLUSH and IDENTIFY go alike under every count (R24). -/
def Obligations.CountCheck : Prop :=
  (∀ (s : State) (tag : Byte) (t : Tag) (lba : BitVec 48) (count : BitVec 16),
    s.Calm → s.FreeTag tag t → s.InService → (count.toNat = 0 ∨ 1024 < count.toNat) →
      exec (.read tag lba count) s = .next (s.completed (Kind.code .read) t .invalid) ∧
      exec (.write tag lba count) s = .next (s.completed (Kind.code .write) t .invalid) ∧
      exec (.deallocate tag lba count) s = .next (s.completed (Kind.code .deallocate) t .invalid)) ∧
  (∀ (s : State) (k : Kind) (v c : Nat) (w : View), 1 ≤ c → c ≤ 1024 → s.view = some w → v + c ≤ w.capacity →
      w.split v c ≠ none → s.resolve k v c ≠ .refused .invalid) ∧
  ∀ (s : State) (k : Kind) (tag : Byte) (count count' : BitVec 16) (lba lba' : BitVec 48), k = .flush ∨ k = .identify →
      s.takeCapsule ⟨k.code, tag, count, lba, []⟩ = s.takeCapsule ⟨k.code, tag, count', lba', []⟩

/-- The bounds check: a capsule that passed the count check is refused OUT_OF_RANGE exactly when the sum of its LBA and its
count, formed without wrapping, exceeds the current view's capacity (R25). -/
def Obligations.BoundsCheck : Prop :=
  (∀ (s : State) (tag : Byte) (t : Tag) (lba : BitVec 48) (count : BitVec 16) (w : View),
    s.Calm → s.FreeTag tag t → s.InService → s.view = some w → 1 ≤ count.toNat → count.toNat ≤ 1024 →
      w.capacity < lba.toNat + count.toNat →
      exec (.read tag lba count) s = .next (s.completed (Kind.code .read) t .outOfRange) ∧
      exec (.write tag lba count) s = .next (s.completed (Kind.code .write) t .outOfRange) ∧
      exec (.deallocate tag lba count) s = .next (s.completed (Kind.code .deallocate) t .outOfRange)) ∧
  ∀ (s : State) (k : Kind) (v c : Nat) (w : View), s.view = some w → v + c ≤ w.capacity →
      s.resolve k v c ≠ .refused .outOfRange

/-- The split: in a view whose entries stand one after another, every sector of a capsule within the capacity gets exactly
the media LBA and the range that its own entry gives it, in one piece or two; and a capsule is refused for a third entry only
when it reaches past the entry that follows the one its first sector lies in (R26, R27). -/
def Obligations.SplitKeepsAddresses : Prop :=
  ∀ (w : View) (v c : Nat), runningFrom 0 w.entries = true → 1 ≤ c → v + c ≤ w.capacity →
    (∀ ps, w.split v c = some ps →
      (ps.length = 1 ∨ ps.length = 2) ∧ (ps.map Piece.count).sum = c ∧
      ∀ k, k < c → ∃ p ∈ ps, ∃ e ∈ w.entries, p.offset ≤ k ∧ k < p.offset + p.count ∧
        e.visible ≤ v + k ∧ v + k < e.visible + e.length ∧ p.range = e.range ∧
        p.lba + (k - p.offset) = e.media + (v + k - e.visible)) ∧
    (w.split v c = none →
      ∃ pre e f post, w.entries = pre ++ e :: f :: post ∧ e.visible ≤ v ∧ v < e.visible + e.length ∧
        e.visible + e.length + f.length < v + c)

/-- The lock check: a capsule whose pieces all pass is bound to them, and one with a piece that fails is completed LOCKED with
nothing bound. A keyed piece passes when the range's read-lock (READ) or write-lock (WRITE, DEALLOCATE) is clear and its slot is
LOADED; an image piece when the state is LOCKED or STAGED (READ), or LOCKED with the image write latch set (R28, R29). -/
def Obligations.LockCheck : Prop :=
  ∀ (s : State) (tag : Byte) (t : Tag) (k : Kind) (lba : BitVec 48) (count : BitVec 16) (w : View) (ps : List Piece)
    (c : Instr),
    s.Calm → s.FreeTag tag t → s.InService → 1 ≤ count.toNat → count.toNat ≤ 1024 → s.view = some w →
      lba.toNat + count.toNat ≤ w.capacity → w.split lba.toNat count.toNat = some ps →
      (k = .read ∧ c = .read tag lba count) ∨ (k = .write ∧ c = .write tag lba count) ∨
        (k = .deallocate ∧ c = .deallocate tag lba count) →
      ((∀ p ∈ ps, if w.kind = .image
          then if k = .read then s.access = .locked ∨ s.access = .staged else s.access = .locked ∧ s.latch = true
          else (if k = .read then s.locks[p.range].readLock else s.locks[p.range].writeLock) = false ∧
            s.slots[p.range].state = .loaded) →
        exec c s = .next (s.bound t k lba.toNat count.toNat (segmentsOf t w.kind 0 ps) none)) ∧
      ((∃ p ∈ ps, ¬ if w.kind = .image
          then if k = .read then s.access = .locked ∨ s.access = .staged else s.access = .locked ∧ s.latch = true
          else (if k = .read then s.locks[p.range].readLock else s.locks[p.range].writeLock) = false ∧
            s.slots[p.range].state = .loaded) →
        exec c s = .next (s.completed k.code t .locked))

/-- FLUSH and IDENTIFY are bound as one segment with no range and no slot under sub-tag 2 × tag, whatever the view and the
locks; an IDENTIFY's entry records the current view's capacity (R17, R36). The LBA 0 and count 0 of the segment and of its
downstream command are the model's (DESIGN CHOICE, log entry 40). -/
def Obligations.FlushAndIdentifyBound : Prop :=
  ∀ (s : State) (tag : Byte) (t : Tag), s.Calm → s.FreeTag tag t → s.InService →
    exec (.flush tag) s = .next (s.bound t .flush 0 0 [bareSegment t] none) ∧
    exec (.identify tag) s = .next (s.bound t .identify 0 0 [bareSegment t] (some s.viewCapacity))

/-- Outside service every data capsule is completed at once with the access state's own status, and nothing else changes; so is
one taken while a POWER ENTER is held for drain (R23). That the completion of a refused IDENTIFY has capacity 0 and no identity
block is the model's (DESIGN CHOICE, log entry 46). -/
def Obligations.DataCapsuleRefusedByAccess : Prop :=
  ∀ (s : State) (tag : Byte) (t : Tag) (lba : BitVec 48) (count : BitVec 16) (st : Status),
    s.FreeTag tag t →
    (s.Calm ∧ ((s.access = .wiping ∧ st = .wiped) ∨ (s.access = .dormant ∧ st = .dormant) ∨
        (s.access = .fault ∧ st = .fault))) ∨
      (({ s with heldPowerEnter := false } : State).Calm ∧ s.InService ∧ s.heldPowerEnter = true ∧
        s.noneForwarded = false ∧ st = .dormant) →
      exec (.read tag lba count) s = .next (s.completed (Kind.code .read) t st) ∧
      exec (.write tag lba count) s = .next (s.completed (Kind.code .write) t st) ∧
      exec (.deallocate tag lba count) s = .next (s.completed (Kind.code .deallocate) t st) ∧
      exec (.flush tag) s = .next (s.completed (Kind.code .flush) t st) ∧
      exec (.identify tag) s = .next (s.completed (Kind.code .identify) t st)

/-- A capsule whose kind byte names no kind, on a FREE tag, is completed INVALID under its own kind byte and tag in every access
state; its entry stays FREE. A capsule, of any tagged kind or of an undefined one, whose tag is above 31 or in use by a FORWARDED,
CONTROL or ABORTING entry is discarded without an answer: PROTOCOL_ERROR is set and nothing else changes. A capsule whose tag's
entry is ORPHANED is not taken: it stays at the head of the lane, and every capsule and notice offered after it waits behind it,
in order (R42, R45, R47). -/
def Obligations.TagsTestedFirst : Prop :=
  ((∀ (s : State) (kind tag : Byte) (t : Tag), s.Calm → s.FreeTag tag t → WellFormed.undefinedKind kind = true →
    exec (.undefinedKindCapsule kind tag) s = .next (s.completed kind t .invalid)) ∧
  (∀ (s : State) (c : Instr) (cap : Capsule), s.Calm → c.capsule? = some cap →
    (∀ n, kindOfByte cap.kind ≠ .notice n) →
    (tagOf cap.tag = none ∨ ∃ t, tagOf cap.tag = some t ∧
      (s.table[t].state = .forwarded ∨ s.table[t].state = .control ∨ s.table[t].state = .aborting)) →
    exec c s = .next (s.noticed NoticeSet.withProtocolError))) ∧
  (∀ (s : State) (c : Instr) (cap : Capsule), c.capsule? = some cap →
    (s.Calm ∧ (∀ n, kindOfByte cap.kind ≠ .notice n) ∧ (∃ t, tagOf cap.tag = some t ∧ s.table[t].state = .orphaned) →
      exec c s = .next { s with lane := [cap] }) ∧
    (∀ head rest, s.lane = head :: rest → ({ s with lane := [] } : State).Calm → s.blocked head = true →
      exec c s = .next { s with lane := s.lane ++ [cap] }))

/-- A CONTROL capsule taken while a request keeps the service place, awaiting a record write, a drain or the start of its test,
waits in the control queue, its entry CONTROL, until four wait; then it is completed BUSY at once and its entry stays FREE. In
DORMANT it is completed DORMANT. Once an event has ended with the service place empty nothing waits, for the head of the queue
enters service as the place empties: a request that waits alone is served exactly as if its capsule were taken at that moment
(R48, R58, R120, R121). That a BUSY or DORMANT completion has no response envelope is the model's (DESIGN CHOICE, log entry 24).
-/
def Obligations.ControlWaitsOrIsBusy : Prop :=
  (∀ (s : State) (tag : Byte) (t : Tag) (envelope : List Byte), s.FreeTag tag t →
    (s.Serving → s.access ≠ .dormant →
      (s.queue.length < 4 →
        exec (.control tag envelope) s = .next { s with
          queue := s.queue ++ [⟨t, envelope.length, envelope.take 1024⟩]
          table := s.table.set t Entry.ofControl }) ∧
      (4 ≤ s.queue.length → exec (.control tag envelope) s = .next (s.completed (Kind.code .control) t .busy))) ∧
    (s.access = .dormant → s.Calm ∨ s.Serving →
      exec (.control tag envelope) s = .next (s.completed (Kind.code .control) t .dormant))) ∧
  (∀ (s : State), s.settleStep = none → s.service = none → s.queue = []) ∧
  (∀ (s : State) (q : Waiting) (qs : List Waiting), s.service = none → s.queue = q :: qs → s.channelReady = false →
    s.settleStep = some (({ s with queue := qs } : State).enterService q)) ∧
  ∀ (s : State) (v : Service) (f : Response) (p : Policy) (tag : Byte) (t : Tag) (envelope : List Byte), s.Busy v →
    v.stage = .lastWrite f → s.writer = ⟨some ⟨.policy p, [.channel]⟩, []⟩ → s.access ≠ .dormant → tag.toNat = t.val →
    t ≠ v.tag → s.table[t] = Entry.ofControl → s.queue = [⟨t, envelope.length, envelope.take 1024⟩] →
    exec .storeWriteCompletion s = exec (.control tag envelope)
      { (s.withPolicy p).answered v.tag .good v.code f with
        service := none, writer := ⟨none, []⟩, queue := [], table := (s.table.set v.tag Entry.free).set t Entry.free }

/-- A request whose envelope fails its test is answered INVALID as it enters service: a length below 40 or above 1024, or other
than 40 plus the field length; a slot byte 8..254; a code that names no request; or a field length below the least that the
request's fields need. No attempt is counted, and but for its answer
no state changes (R59, R60, R121). The code echoed for an envelope shorter than two bytes is a free value (log entry 24). -/
def Obligations.BadEnvelopeAnsweredInvalid : Prop :=
  ∀ (s : State) (tag : Byte) (t : Tag) (bytes : List Byte), s.Calm → s.FreeTag tag t → s.access ≠ .dormant →
    bytes.length < 40 ∨ 1024 < bytes.length ∨ bytes.length ≠ 40 + fieldAt bytes 2 2 ∨
      (8 ≤ (byteAt bytes 4).toNat ∧ (byteAt bytes 4).toNat ≤ 254) ∨
      (∀ r : Request, envelopeCode bytes ≠ r.code) ∨
      fieldAt bytes 2 2 < minimumFieldLength (fieldAt bytes 0 2) (bytes.drop 40) →
    exec (.control tag bytes) s = .next (s.answered t .invalid (envelopeCode (keptEnvelope bytes)) .noFields)

/-! ## Sectors (sections 2.2, 2.3, 3.1 and 3.4) -/

/-- A write sector of a FORWARDED WRITE, below the count and not yet received, is marked received in the segment its command
offset falls into and held for the Downstream Port under that segment's sub-tag and segment offset: enciphered under the key of
the segment's slot and the tweak of its media LBA, or unchanged for an image segment (R32, R34, R43). -/
def Obligations.WriteSectorEnciphered : Prop :=
  ∀ (s : State) (tag : Byte) (t : Tag) (offset : Nat) (data : Sector) (g : Segment),
    s.Calm → tag.toNat = t.val → s.table[t].state = .forwarded → s.table[t].kind = some .write →
      offset < s.table[t].count → s.table[t].segmentAt offset = some g → g.status = none →
      offset - g.offset ∉ g.received →
      (∀ r key, g.slot = some r → s.slots[r].key = some key →
        exec (.writeDataSector tag offset data) s =
          .next { s.withSegment t g.subTag (Segment.receive (offset - g.offset)) with
            writeHeld := s.writeHeld ++
              [⟨g.subTag, offset - g.offset, encipher key (tweakOf (g.lba + (offset - g.offset))) data⟩] }) ∧
      (g.slot = none →
        exec (.writeDataSector tag offset data) s =
          .next { s.withSegment t g.subTag (Segment.receive (offset - g.offset)) with
            writeHeld := s.writeHeld ++ [⟨g.subTag, offset - g.offset, data⟩] })

/-- Sectors and completions that are discarded, leaving all else as it was. A write sector: silently for an ABORTING or ORPHANED
entry and for a segment already finished; with PROTOCOL_ERROR for a tag above 31, an entry FREE, CONTROL or FORWARDED of another
kind, an offset at or above the count, and an offset already received. A read sector: silently for an entry ABORTING or ORPHANED;
with PROTOCOL_ERROR for a segment not of a READ, an offset at or above its count, a sub-tag of the Wipe Engine, and a sub-tag that
is not outstanding. A downstream completion on a sub-tag that is not outstanding, with PROTOCOL_ERROR (R43, R50, R51). That a
write sector with a tag above 31 sets the notice, and that one for a finished segment sets none, is deduced (DEDUCED, log entry
22). -/
def Obligations.SectorsAndCompletionsDiscarded : Prop :=
  (∀ (s : State) (tag : Byte) (offset : Nat) (data : Sector), s.Calm →
    (∀ t : Tag, tag.toNat = t.val →
      (s.table[t].state = .aborting ∨ s.table[t].state = .orphaned ∨
        (s.table[t].state = .forwarded ∧ s.table[t].kind = some .write ∧ offset < s.table[t].count ∧
          ∃ g, s.table[t].segmentAt offset = some g ∧ g.status.isSome = true)) →
      exec (.writeDataSector tag offset data) s = .next s) ∧
    ((32 ≤ tag.toNat ∨ ∃ t : Tag, tag.toNat = t.val ∧
      (s.table[t].state = .free ∨ s.table[t].state = .control ∨
        (s.table[t].state = .forwarded ∧ (s.table[t].kind ≠ some .write ∨ s.table[t].count ≤ offset ∨
          ∃ g, s.table[t].segmentAt offset = some g ∧ g.status = none ∧ offset - g.offset ∈ g.received)))) →
      exec (.writeDataSector tag offset data) s = .next (s.noticed NoticeSet.withProtocolError))) ∧
  (∀ (s : State) (subTag : Byte) (offset : Nat) (data : Sector), s.Calm →
    (∀ t : Tag, subTag.toNat ∈ s.outstanding → subTag.toNat / 2 = t.val →
      (s.table[t].state = .aborting ∨ s.table[t].state = .orphaned) →
      exec (.readDataSector subTag offset data) s = .next s) ∧
    ((subTag.toNat ∉ s.outstanding ∨ 64 ≤ subTag.toNat ∨
      ∃ t : Tag, subTag.toNat / 2 = t.val ∧ s.table[t].state = .forwarded ∧
        (s.table[t].kind ≠ some .read ∨ ∀ g, s.table[t].segment? subTag.toNat = some g → g.count ≤ offset)) →
      exec (.readDataSector subTag offset data) s = .next (s.noticed NoticeSet.withProtocolError))) ∧
  (∀ (s : State) (subTag code : Byte) (x : Sector), s.Calm → subTag.toNat ∉ s.outstanding →
    exec (.downstreamCompletion subTag code x) s = .next (s.noticed NoticeSet.withProtocolError))

/-- A read sector on an outstanding sub-tag, for a segment of a FORWARDED READ and below its count, is counted as delivered and
held for the outbound side: deciphered under the key of the segment's slot and the tweak of its media LBA, or unchanged for an
image segment (R33, R34, R51). -/
def Obligations.ReadSectorDeciphered : Prop :=
  ∀ (s : State) (subTag : Byte) (t : Tag) (offset : Nat) (data : Sector) (g : Segment),
    s.Calm → subTag.toNat ∈ s.outstanding → subTag.toNat / 2 = t.val → s.table[t].state = .forwarded →
      s.table[t].kind = some .read → s.table[t].segment? subTag.toNat = some g → offset < g.count →
      (∀ r key, g.slot = some r → s.slots[r].key = some key →
        exec (.readDataSector subTag offset data) s =
          .next { s.withSegment t g.subTag Segment.deliver with
            readHeld := s.readHeld ++ [⟨g.subTag, offset, decipher key (tweakOf (g.lba + offset)) data⟩] }) ∧
      (g.slot = none →
        exec (.readDataSector subTag offset data) s =
          .next { s.withSegment t g.subTag Segment.deliver with
            readHeld := s.readHeld ++ [⟨g.subTag, offset, data⟩] })

/-- A sector enciphered for one segment deciphers, for any segment of any state that holds the same key and at the same media LBA,
to what was written; two sectors that differ in one block alone encipher to two that differ in that block alone; and the same
plaintext block at two media LBAs, or at two block numbers, gives different ciphertext (R31). The block function is uninterpreted
but for these laws (DEDUCED, log entry 9). -/
def Obligations.SectorsReadBackAsWritten : Prop :=
  (∀ (s u : State) (g h : Segment) (k l : Nat) (q r : RangeIndex) (key : Key) (x : Sector),
    g.slot = some q → s.slots[q].key = some key → h.slot = some r → u.slots[r].key = some key → g.lba + k = h.lba + l →
      ∃ y, s.writeSectorData g k x = some y ∧ u.readSectorData h l y = some x) ∧
  (∀ (key : Key) (w : Tweak) (x y : Sector) (j : Fin 32), x[j] ≠ y[j] → (∀ i : Fin 32, i ≠ j → x[i] = y[i]) →
    (encipher key w x)[j] ≠ (encipher key w y)[j] ∧ ∀ i : Fin 32, i ≠ j → (encipher key w x)[i] = (encipher key w y)[i]) ∧
  ∀ (key : Key) (l m : Nat) (x y : Sector) (i j : Fin 32), l < 2 ^ 48 → m < 2 ^ 48 → x[i] = y[j] → l ≠ m ∨ i ≠ j →
    (encipher key (tweakOf l) x)[i] ≠ (encipher key (tweakOf m) y)[j]

/-- A held read sector passes upstream under the capsule's tag at the segment's command offset plus its own, and is counted as
passed; unless its segment's completion has arrived and it is the last to pass, nothing else happens. In that case the segment
finishes with the status that arrived, its slot's use count falling by one; and when it was the entry's last unfinished segment,
the completion follows the sector and the entry is FREE; while the entry's other segment is unfinished the entry stays and no
completion is sent (R33, R37, R38). Of two sectors held at one offset the older passes first (DESIGN CHOICE, log entry 41). -/
def Obligations.ReadSectorPasses : Prop :=
  (∀ (s : State) (subTag : Byte) (t : Tag) (offset : Nat) (g : Segment) (h : HeldSector),
    s.Calm → heldAt subTag.toNat offset s.readHeld = some h → subTag.toNat / 2 = t.val →
      s.table[t].segment? subTag.toNat = some g → (g.arrived = none ∨ 1 < g.unpassed) →
      exec (.readSectorPassedUpstream subTag offset) s =
        .next { s.withSegment t g.subTag (fun u => { u with unpassed := u.unpassed - 1 }) with
          readHeld := s.readHeld.erase h
          outbound := s.outbound ++ [.readData t.val (g.offset + offset) h.data] }) ∧
  (∀ (s : State) (subTag : Byte) (t : Tag) (offset : Nat) (g : Segment) (h : HeldSector) (st : Status),
    s.Calm → heldAt subTag.toNat offset s.readHeld = some h → subTag.toNat / 2 = t.val → s.table[t].state = .forwarded →
      s.table[t].kind = some .read → s.table[t].segment? subTag.toNat = some g → g.arrived = some st → g.unpassed = 1 →
      (∀ u ∈ s.table[t].segments, if u.subTag = subTag.toNat then u = g else u.status.isSome = true) →
      exec (.readSectorPassedUpstream subTag offset) s =
        .next { s with
          table := s.table.set t Entry.free
          slots := s.slotsReleased g
          readHeld := s.readHeld.erase h
          writeHeld := s.writeHeld.filter fun w => decide (w.subTag ≠ subTag.toNat)
          outbound := s.outbound ++ [.readData t.val (g.offset + offset) h.data,
            .completion (Kind.code .read) (BitVec.ofNat 8 t.val)
              (mergedStatus (s.table[t].segments.map fun u => if u.subTag = subTag.toNat then { u with status := some st } else u))
              (s.table[t].capacity.getD 0) none s.table[t].identity] }) ∧
  (∀ (s : State) (subTag : Byte) (t : Tag) (offset : Nat) (g : Segment) (h : HeldSector) (st : Status),
    s.Calm → heldAt subTag.toNat offset s.readHeld = some h → subTag.toNat / 2 = t.val → s.table[t].state = .forwarded →
      s.table[t].kind = some .read → s.table[t].segment? subTag.toNat = some g → g.arrived = some st → g.unpassed = 1 →
      (∀ u ∈ s.table[t].segments, u.subTag = subTag.toNat → u = g) →
      (∃ u ∈ s.table[t].segments, u.subTag ≠ subTag.toNat ∧ u.status = none) →
      exec (.readSectorPassedUpstream subTag offset) s =
        .next { s.withSegment t subTag.toNat (fun u => { u with unpassed := 0, status := some st }) with
          slots := s.slotsReleased g
          readHeld := s.readHeld.erase h
          writeHeld := s.writeHeld.filter fun w => decide (w.subTag ≠ subTag.toNat)
          outbound := s.outbound ++ [.readData t.val (g.offset + offset) h.data] })

/-- The Downstream Port takes the first write sector held for a sub-tag: it is sent under that sub-tag with its segment offset,
and that offset counts as sent. For an unfinished segment of an ABORTING or ORPHANED WRITE, a segment offset not yet sent goes
down as 512 zero bytes, not enciphered, whether or not its data had been received; an offset already sent is not sent again, and
for an entry in any other state no zeros are sent (R32, R39). A command for a sector that is not owed changes nothing (DESIGN
CHOICE, log entry 8). -/
def Obligations.WriteDataGoesDown : Prop :=
  (∀ (s : State) (subTag : Byte) (t : Tag) (h : HeldSector),
    s.Calm → (s.writeHeld.find? fun x => decide (x.subTag = subTag.toNat)) = some h → subTag.toNat / 2 = t.val →
      exec (.writeSectorSentDownstream subTag) s =
        .next { s.withSegment t subTag.toNat (fun g => { g with sent := insertNat h.offset g.sent }) with
          writeHeld := s.writeHeld.erase h
          downstream := s.downstream ++ [.writeData subTag.toNat h.offset h.data] }) ∧
  (∀ (s : State) (subTag : Byte) (t : Tag) (offset : Nat) (g : Segment),
    s.Calm → subTag.toNat / 2 = t.val → s.table[t].segment? subTag.toNat = some g →
      ((s.table[t].state = .aborting ∨ s.table[t].state = .orphaned) → s.table[t].kind = some .write → g.status = none →
        offset < g.count → offset ∉ g.sent →
        exec (.zeroWriteSectorSent subTag offset) s =
          .next { s.withSegment t subTag.toNat (fun u => { u with sent := insertNat offset u.sent }) with
            downstream := s.downstream ++ [.writeData subTag.toNat offset zeroSector] }) ∧
      (offset ∈ g.sent ∨ g.count ≤ offset ∨ (s.table[t].state ≠ .aborting ∧ s.table[t].state ≠ .orphaned) →
        exec (.zeroWriteSectorSent subTag offset) s = .next s))

/-! ## Downstream completions (sections 2.3, 3.4 and 3.5) -/

/-- A downstream completion for a segment of a FORWARDED entry with no delivered sector left to pass: the sub-tag leaves the
outstanding set, the segment finishes with the status that the back end returned, any code but GOOD and ABORTED taken as
MEDIA_ERROR, and its slot's use count falls by one. The entry waits for its other segment, or completes: under segment 0's status
when that is not GOOD, else segment 1's, with the recorded capacity and the identity block of an IDENTIFY. For a READ segment that
still has delivered sectors to pass, the sub-tag leaves the outstanding set and the status is kept, but the segment does not
finish and nothing goes upstream (R37, R38, R50). Write sectors of the segment still held are dropped (DEDUCED, log entry 19). -/
def Obligations.CompletionFinishesItsSegment : Prop :=
  ((∀ (s : State) (subTag code : Byte) (x : Sector) (t : Tag) (g : Segment) (st : Status), s.Calm →
    (s.EndsEntry subTag code t g st →
      exec (.downstreamCompletion subTag code x) s = .next (s.entryEnded subTag t g st x)) ∧
    (subTag.toNat ∈ s.outstanding → subTag.toNat / 2 = t.val → s.table[t].state = .forwarded →
      s.table[t].segment? subTag.toNat = some g → g.unpassed = 0 →
      ((code = 0 ∧ st = .good) ∨ (code = 5 ∧ st = .aborted) ∨ (code ≠ 0 ∧ code ≠ 5 ∧ st = .mediaError)) →
      ((∃ u ∈ s.table[t].segments, u.subTag ≠ subTag.toNat ∧ u.status = none) →
        exec (.downstreamCompletion subTag code x) s =
          .next { s.subTagFreed subTag.toNat with
            table := s.table.set t (s.table[t].withFinished subTag.toNat st x)
            slots := s.slotsReleased g }))) ∧
  (∀ (a b : Segment) (x y : Status), a.status = some x → b.status = some y →
    mergedStatus [a] = x ∧ mergedStatus [a, b] = if x = .good then y else x) ∧
  ∀ (e : Entry) (t : Tag) (st : Status) (k : Kind), e.kind = some k →
    e.completion t st = .completion k.code (BitVec.ofNat 8 t.val) st (e.capacity.getD 0) none e.identity) ∧
  (∀ (s : State) (subTag code : Byte) (x : Sector) (t : Tag) (g : Segment),
    s.Calm → subTag.toNat ∈ s.outstanding → subTag.toNat / 2 = t.val → s.table[t].state = .forwarded →
      s.table[t].kind = some .read → s.table[t].segment? subTag.toNat = some g → 0 < g.unpassed →
      exec (.downstreamCompletion subTag code x) s =
        .next { s.withSegment t subTag.toNat (fun u => { u with arrived := some (backEndStatus code) }) with
          outstanding := s.outstanding.filter fun n => decide (n ≠ subTag.toNat) })

/-- The last completion of a struck entry: an ABORTING entry completes WIPED whatever its segments returned, an ORPHANED one
becomes FREE and sends nothing; neither moves a use count. One that still owes another segment stays (R39, R50, R52, R54). What
the completion WIPED of an IDENTIFY carries, and that held write sectors are dropped, is deduced (DEDUCED, log entries 19 and 23).
-/
def Obligations.StruckEntriesEnd : Prop :=
  ∀ (s : State) (subTag code : Byte) (x : Sector) (t : Tag) (g : Segment),
    s.Calm → subTag.toNat ∈ s.outstanding → subTag.toNat / 2 = t.val → s.table[t].segment? subTag.toNat = some g →
      ((∀ u ∈ s.table[t].segments, u.subTag ≠ subTag.toNat → u.status.isSome = true) →
        (s.table[t].state = .aborting →
          exec (.downstreamCompletion subTag code x) s =
            .next { s.subTagFreed subTag.toNat with
              table := s.table.set t Entry.free
              outbound := s.outbound ++
                [(s.table[t].withFinished subTag.toNat (backEndStatus code) x).completion t .wiped] }) ∧
        (s.table[t].state = .orphaned →
          exec (.downstreamCompletion subTag code x) s =
            .next { s.subTagFreed subTag.toNat with table := s.table.set t Entry.free })) ∧
      ((∃ u ∈ s.table[t].segments, u.subTag ≠ subTag.toNat ∧ u.status = none) →
        s.table[t].state = .aborting ∨ s.table[t].state = .orphaned →
        exec (.downstreamCompletion subTag code x) s =
          .next { s.subTagFreed subTag.toNat with
            table := s.table.set t (s.table[t].withFinished subTag.toNat (backEndStatus code) x) })

/-! ## Notices (sections 3.6, 4.5, 9.3 and 9.4) -/

/-- LINK RESET outside DORMANT: every Command Table entry goes as R53 says, the use counts of FORWARDED entries are released, no
completion is sent, the outstanding set stays and the image write latch is cleared. In STAGED the pending view becomes current and
the state OPEN, with no lock-on; in OPEN the ranges of the current view that hold LINK_RESET are both-locked; in BLANK, LOCKED,
WIPING and FAULT nothing is locked. Then it is forwarded and acknowledged GOOD. At the control channel every waiting request is
gone, its entry FREE; a request that awaits a record write stays in service, and when its effect ends its response is discarded.
The response of an UNLOCK that has stored its pending view and has yet to hand out its response is discarded too, and the view
handed over (R14, R16, R53, R69, R123, R178). That held sectors are dropped and a segment whose completion had arrived finishes at
once is deduced (DEDUCED, log entry 18); that a response may follow its load is a free value (log entry 45). -/
def Obligations.LinkResetActs : Prop :=
  (∀ (s u : State),
    (s.Calm ∧ u = s.afterStrike) ∨
      (∃ v, s.power = .running ∧ s.service = some v ∧ v.stage.awaitsWrite = true ∧ s.lane = [] ∧ s.dataLane = [] ∧
        s.sessionEnd = false ∧ s.heldPowerEnter = false ∧
        u = { s.afterStrike with queue := [], service := some { v with discard := true } }) ∨
      (∃ v f, s.power = .running ∧ s.service = some v ∧ v.stage = .answering f ∧ v.discard = false ∧ s.lane = [] ∧
        s.dataLane = [] ∧ s.sessionEnd = false ∧ s.heldPowerEnter = false ∧
        u = { s.afterStrike with queue := [], service := none }) →
    (s.access = .blank ∨ s.access = .locked ∨ s.access = .wiping ∨ s.access = .fault →
      exec .linkReset s = .next (u.answeredNotice .linkReset .good)) ∧
    (s.access = .staged →
      exec .linkReset s = .next
        ({ u with access := .opened, view := s.pendingView, pendingView := none }.answeredNotice .linkReset .good)) ∧
    (∀ v, s.access = .opened → s.view = some v →
      exec .linkReset s = .next ((u.afterLockOn v LockOn.linkReset).answeredNotice .linkReset .good))) ∧
  ∀ (s : State) (v : Service) (f : Response) (p : Policy), s.power = .running → s.service = some v → v.stage = .lastWrite f →
    v.discard = true → v.struck = false → s.queue = [] → s.lane = [] → s.dataLane = [] → s.sessionEnd = false →
    s.heldPowerEnter = false → s.writer = ⟨some ⟨.policy p, [.channel]⟩, []⟩ →
    exec .storeWriteCompletion s = .next { s.withPolicy p with service := none, writer := ⟨none, []⟩ }

/-- POWER EXIT in DORMANT returns to the resume state with the views, locks and slots as they stand; it is forwarded and
acknowledged GOOD. With resume state WIPING the Wipe Engine goes on: a wipe that waited starts its sanitize, with the first four
steps (here with no range excluded), or begins its finish; one whose record writes have not all completed goes on with them. LINK
RESET in DORMANT is taken as POWER EXIT and then LINK RESET: the part wakes as at POWER EXIT, which is forwarded and not
acknowledged, and the link reset acts as it does in the state woken to (R55, R150, R154, R161, R175, R177). That the first sanitize
steps are among the acts that precede the notice's forwarding is deduced (DEDUCED, log entry 32); the new key of a finish is a
free value (log entry 10). -/
def Obligations.WakesFromDormant : Prop :=
  ∀ (s : State) (a : Access), s.Calm → s.access = .dormant → s.resume = some a → a ≠ .dormant →
    (a ≠ .wiping → exec .powerExit s = .next ({ s with access := a, resume := none }.answeredNotice .powerExit .good)) ∧
    (∀ j, a = .wiping → s.engine.job = some j →
      (j.stage ≠ .sanitizeWait → j.stage ≠ .finishWait →
        exec .powerExit s = .next ({ s with access := .wiping, resume := none }.answeredNotice .powerExit .good)) ∧
      (j.stage = .sanitizeWait → ¬ (j.keepOwner = true ∧ j.depth = .media) → 4096 ≤ s.capacity → s.outstanding = [] →
        exec .powerExit s = .next { s with
          access := .wiping, resume := none
          engine := ⟨some { j with stage := .sanitizing }, some ⟨4096,
            [⟨0, 1024, 64, .issued, false⟩, ⟨1024, 1024, 65, .issued, false⟩, ⟨2048, 1024, 66, .issued, false⟩,
              ⟨3072, 1024, 67, .issued, false⟩], 0⟩⟩
          outstanding := [64, 65, 66, 67]
          downstream := s.downstream ++ [.command .deallocate 64 0 1024, .command .deallocate 65 1024 1024,
            .command .deallocate 66 2048 1024, .command .deallocate 67 3072 1024, .notice .powerExit]
          outbound := s.outbound ++ [.acknowledgement .powerExit .good] }) ∧
      (j.stage = .finishWait → s.writer = ⟨none, []⟩ →
        (j.keepOwner = true →
          exec .powerExit s = .next (({ s with
            access := .wiping, resume := none
            engine := ⟨some { j with stage := .finishNone }, s.engine.sanitize⟩
            writer := ⟨some ⟨.wipe ⟨.none, some j.reason, none, none, none, some j.skipped⟩, [.engine]⟩, []⟩ } : State).answeredNotice
              .powerExit .good)) ∧
        (j.keepOwner = false →
          exec .powerExit s = .next (({ s with
            access := .wiping, resume := none, draws := s.draws + 1
            engine := ⟨some { j with stage := .finishOwner }, s.engine.sanitize⟩
            writer := ⟨some ⟨.credential 0 (.blank (wrapKey s.store.identity.deviceKey 0
              s.copies.layout[(0 : RangeIndex)].generation (Config.freshKey s.draws))), [.engine]⟩, []⟩ } : State).answeredNotice
              .powerExit .good)))) ∧
    (∃ w, exec .powerExit s = .next (w.acknowledged .powerExit .good) ∧ w.access = a ∧
      exec .linkReset s = exec .linkReset w)

/-- POWER ENTER. With no entry FORWARDED it is applied at once: in OPEN and STAGED the ranges of the session view that hold
LOW_POWER are both-locked, the access state is recorded as the resume state, the latch cleared, the state DORMANT, and the notice
forwarded and acknowledged GOOD; in BLANK and LOCKED the same without a lock-on. With an entry FORWARDED it is held. In WIPING,
FAULT and DORMANT, and while one is held already, it is refused and not forwarded. The hold of one ends at the downstream
completion that leaves no entry FORWARDED, after the effects of that completion: it is then applied as above, or refused when the
state is WIPING or FAULT by then; a completion that leaves another entry FORWARDED does not end it (R70, R170, R171). -/
def Obligations.PowerEnterActs : Prop :=
  ∀ (s : State), 
    (s.Calm → s.noneForwarded = true →
      (s.access = .blank ∨ s.access = .locked → exec .powerEnter s = .next (s.asDormant s.access)) ∧
      (∀ v, (s.access = .opened ∧ s.view = some v) ∨ (s.access = .staged ∧ s.pendingView = some v) →
        exec .powerEnter s = .next ((s.afterLockOn v LockOn.lowPower).asDormant s.access))) ∧
    (s.Calm → s.noneForwarded = false → s.InService → exec .powerEnter s = .next { s with heldPowerEnter := true }) ∧
    (∀ st, s.Calm →
      (s.access = .wiping ∧ st = .wiped) ∨ (s.access = .fault ∧ st = .fault) ∨ (s.access = .dormant ∧ st = .dormant) →
      exec .powerEnter s = .next (s.acknowledged .powerEnter st)) ∧
    (({ s with heldPowerEnter := false } : State).Calm → s.heldPowerEnter = true → s.noneForwarded = false →
      exec .powerEnter s = .next (s.acknowledged .powerEnter .dormant)) ∧
    (∀ (subTag code : Byte) (x : Sector) (t : Tag) (g : Segment) (st : Status) (u : State),
      ({ s with heldPowerEnter := false } : State).Calm → s.heldPowerEnter = true → s.EndsEntry subTag code t g st →
      u = { s.entryEnded subTag t g st x with heldPowerEnter := false } →
      (u.noneForwarded = true →
        (s.access = .blank ∨ s.access = .locked →
          exec (.downstreamCompletion subTag code x) s = .next (u.asDormant s.access)) ∧
        (∀ v, (s.access = .opened ∧ s.view = some v) ∨ (s.access = .staged ∧ s.pendingView = some v) →
          exec (.downstreamCompletion subTag code x) s = .next ((u.afterLockOn v LockOn.lowPower).asDormant s.access)) ∧
        (∀ r, (s.access = .wiping ∧ r = .wiped) ∨ (s.access = .fault ∧ r = .fault) →
          exec (.downstreamCompletion subTag code x) s = .next (u.acknowledged .powerEnter r))) ∧
      (u.noneForwarded = false →
        exec (.downstreamCompletion subTag code x) s = .next (s.entryEnded subTag t g st x)))

/-- POWER EXIT outside DORMANT with no POWER ENTER held changes no state, is forwarded and acknowledged GOOD, in every access
state; with a POWER ENTER held it withdraws it: that one is acknowledged ABORTED and not forwarded, and then the POWER EXIT is
forwarded and acknowledged GOOD (R172, R176). -/
def Obligations.PowerExitOutsideDormant : Prop :=
  ∀ (s : State),
    (s.Calm → s.access ≠ .dormant → exec .powerExit s = .next (s.answeredNotice .powerExit .good)) ∧
    (({ s with heldPowerEnter := false } : State).Calm → s.heldPowerEnter = true → s.noneForwarded = false →
      exec .powerExit s = .next
        (({ s with heldPowerEnter := false }.acknowledged .powerEnter .aborted).answeredNotice .powerExit .good))

/-! ## Requests served without authorization (sections 6.4, 7.2, 7.3 and 7.5) -/

/-- QUERY STATE, in every state but DORMANT, answers GOOD with its thirteen fields as they stand, and empties the notice set and
turns the attention enable off. The provisioning state follows slot 0's kind and the final flag; the fault cause is given in FAULT
alone; the capacity is the current view's; the notices are those of the set. In phase NONE, which a wipe just triggered leaves
until its record is written, reason and skipped count are those of the last wipe finished and the progress 0; in PURGE the reason
is the present wipe's and both figures are 0; in SANITIZE the progress is floor(100 × (frontier − B) / (M − E)). QUERY RANGES
without a block, in BLANK, LOCKED, STAGED and OPEN, answers GOOD with the current view's entries in order and changes nothing else;
the locks of an entry are its range's, but of the image view the read-lock is clear and the write-lock clear in LOCKED under the
latch alone (R86, R97, R128, R129, R131, R158). Progress, reason and skipped count of a wipe that waits in FAULT are deduced
(DEDUCED, log entry 35). -/
def Obligations.OpenReports : Prop :=
  ∀ (s : State) (tag : Byte) (t : Tag) (auth : AuthBlock), s.Calm → s.FreeTag tag t → blockSlot auth.slot ≠ none →
    (s.access ≠ .dormant → ∃ p : StateReport,
      exec (.queryState tag auth) s =
        .next { s.answered t .good 1 (.state p) with notices := NoticeSet.empty, attention := false } ∧
      p.access = s.access ∧
      p.provisioning = (if s.copies.credentials[(0 : SlotIndex)].record.map Credential.kind = some .blank then .blank
        else if s.copies.policy.final then .final else .owned) ∧
      p.faultCause = (if s.access = .fault then s.faultCause else none) ∧
      p.attempts = s.copies.counters.attempts ∧ p.backoff = s.backoff.getD 0 ∧ p.phase = s.copies.wipe.phase ∧
      (∀ w, w = s.view.getD View.empty → p.capacity = (w.entries.map ViewEntry.length).sum) ∧
      p.platform = s.platform ∧ p.level = s.level ∧ p.notices.Nodup ∧ (∀ n, n ∈ p.notices ↔ s.notices.has n = true) ∧
      (s.copies.wipe.phase = .none →
        p.reason = s.copies.wipe.reason ∧ p.progress = 0 ∧ p.skipped = s.copies.wipe.skipped.getD 0) ∧
      (∀ j, s.copies.wipe.phase = .purge → s.engine.job = some j →
        p.reason = some j.reason ∧ p.progress = 0 ∧ p.skipped = 0) ∧
      (∀ j f, s.copies.wipe.phase = .sanitize → s.engine.job = some j →
        (∃ z, s.engine.sanitize = some z ∧ f = z.frontier) ∨
          (s.engine.sanitize = none ∧ s.copies.wipe.cursor = some f) →
        p.reason = some j.reason ∧ p.skipped = j.skipped ∧
        (s.excluded j = none → p.progress = 100 * f / s.capacity) ∧
        (∀ y, s.excluded j = some y →
          p.progress = 100 * (f - if y.start + y.length ≤ f then y.length else 0) / (s.capacity - y.length)))) ∧
    (∀ w, s.InService → auth.slot = noBlock → w = s.view.getD View.empty →
      exec (.queryRanges tag auth) s = .next (s.answered t .good 2 (.viewEntries (w.entries.map fun e =>
        if w.kind = .image then ⟨e.visible, e.length, false, !(decide (s.access = .locked) && s.latch)⟩
        else ⟨e.visible, e.length, s.locks[e.range].readLock, s.locks[e.range].writeLock⟩))))

/-- SET ATTENTION in BLANK, LOCKED, STAGED and OPEN turns the enable on and answers GOOD, with no attempt counted, whatever block
it carries; with the notice set non-empty the attention line is then asserted. In WIPING and FAULT it is refused and the enable
keeps its value (R130). -/
def Obligations.SetAttention : Prop :=
  ∀ (s : State) (tag : Byte) (t : Tag) (auth : AuthBlock), s.Calm → s.FreeTag tag t → blockSlot auth.slot ≠ none →
    (s.InService →
      exec (.setAttention tag auth) s = .next { s.answered t .good 4 .noFields with attention := true } ∧
      (s.notices ≠ NoticeSet.empty →
        ({ s.answered t .good 4 .noFields with attention := true } : State).attentionLine = true)) ∧
    (s.access = .wiping → exec (.setAttention tag auth) s = .next (s.answered t .wiped 4 .noFields)) ∧
    (s.access = .fault → exec (.setAttention tag auth) s = .next (s.answered t .fault 4 .noFields))

/-- TAKE OWNERSHIP in BLANK, without authorization: slot 0 is written as an ACTIVE OWNER under a new salt, with the verifier of
the new secret and one wrap, of the loaded global key at range 0's generation; when the write completes the state is OPEN with the
view and the slot kept, and the answer GOOD carries the view's capacity. In LOCKED, STAGED and OPEN it is answered WRONG_STATE
(R114). The new salt is a free value (log entry 10). -/
def Obligations.TakeOwnershipMakesTheOwner : Prop :=
  ∀ (s : State) (tag : Byte) (t : Tag) (auth : AuthBlock) (secret : Secret), s.Calm → s.FreeTag tag t →
    blockSlot auth.slot ≠ none →
    (∀ key, s.access = .blank → s.writer = ⟨none, []⟩ → s.slots[(0 : RangeIndex)].key = some key →
      ∃ a, exec (.takeOwnership tag auth secret) s = .next a ∧
        runs a [.storeWriteCompletion] = .next
          { (s.answered t .good 16 (.capacity s.viewCapacity)).withCredential 0
              ⟨.owner, some .active, some (Config.freshSalt s.draws),
                some (Config.secretDigest (Config.freshSalt s.draws) secret),
                [wrapKey (Config.wrappingKey secret (Config.freshSalt s.draws)) 0
                  s.copies.layout[(0 : RangeIndex)].generation key]⟩ with
            access := .opened, latch := false, draws := s.draws + 1 }) ∧
    (s.access = .locked ∨ s.access = .staged ∨ s.access = .opened →
      exec (.takeOwnership tag auth secret) s = .next (s.answered t .wrongState 16 .noFields))

/-- PRESENT PLATFORM, the first of its power cycle, compares the token's digest with the stored one: MATCHED when they agree or the
binding policy is NONE; MISMATCHED and answered GOOD under DENY; MISMATCHED, answered WIPED and a wipe begun with reason PLATFORM
under WIPE. A second one is answered WRONG_STATE and changes nothing (R113). -/
def Obligations.PresentPlatformCompares : Prop :=
  ∀ (s : State) (tag : Byte) (t : Tag) (auth : AuthBlock) (token : Token), s.Calm → s.FreeTag tag t →
    blockSlot auth.slot ≠ none → s.InService →
    (s.presented = false →
      (s.copies.policy.binding = .none ∨ s.copies.policy.digest = some (Config.tokenDigest token) →
        exec (.presentPlatform tag auth token) s = .next
          { s.answered t .good 17 (.platform .matched) with presented := true, platform := .matched }) ∧
      (s.copies.policy.binding ≠ .none → s.copies.policy.digest ≠ some (Config.tokenDigest token) →
        (s.copies.policy.binding = .deny →
          exec (.presentPlatform tag auth token) s = .next
            { s.answered t .good 17 (.platform .mismatched) with presented := true, platform := .mismatched }) ∧
        (s.copies.policy.binding = .wipe → s.noneForwarded = true → s.engine.job = none → s.writer = ⟨none, []⟩ →
          exec (.presentPlatform tag auth token) s = .next
            (({ s.answered t .wiped 17 .noFields with presented := true, platform := .mismatched } : State).wipeBegun
              .platform s.copies.policy.depth s.keepOwner)))) ∧
    (s.presented = true → exec (.presentPlatform tag auth token) s = .next (s.answered t .wrongState 17 .noFields))

/-- SELF TEST in BLANK, LOCKED, STAGED and OPEN: with no entry FORWARDED its test begins at once, and its response waits for the
test's end; with one FORWARDED it is held, and its test begins at the downstream completion that leaves none FORWARDED. In WIPING
and FAULT it is refused. The unit enciphers the vector's plaintext under its key and tweak and deciphers the result; the test
passes when the first is the vector's expected ciphertext and the second its plaintext, as for a sound unit and a vector made by
one; then the answer is GOOD and nothing else changes. Otherwise the part enters FAULT with cause SELF_TEST and answers FAULT:
every slot EMPTY, every range both-locked, no session end pending, the empty view current, no pending view and the latch clear;
the back-off, the notices, the attention enable, the platform state and the records are as they were (R31, R40, R41, R122, R139,
R140). What a defective unit gives in place of either sector is an operand of the command (DEDUCED, log entry 21). -/
def Obligations.SelfTestRuns : Prop :=
  (∀ (s : State) (tag : Byte) (t : Tag) (auth : AuthBlock) (slot : Option SlotIndex), s.Calm → s.FreeTag tag t →
    blockSlot auth.slot = some slot →
    (s.InService →
      exec (.selfTest tag auth) s = .next { s with
        table := s.table.set t Entry.ofControl
        service := some ⟨t, 5, .selfTest, slot.map fun i => (i, auth.secret), s.access,
          if s.noneForwarded then .testing else .holdTest, false, false⟩ }) ∧
    (s.access = .wiping → exec (.selfTest tag auth) s = .next (s.answered t .wiped 5 .noFields)) ∧
    (s.access = .fault → exec (.selfTest tag auth) s = .next (s.answered t .fault 5 .noFields))) ∧
  (∀ (s : State) (v : Service) (subTag code : Byte) (x : Sector) (t : Tag) (g : Segment) (st : Status) (u : State), s.Busy v →
    v.stage = .holdTest → s.access ≠ .dormant → s.EndsEntry subTag code t g st → u = s.entryEnded subTag t g st x →
    (u.noneForwarded = true →
      exec (.downstreamCompletion subTag code x) s = .next { u with service := some { v with stage := .testing } }) ∧
    (u.noneForwarded = false → exec (.downstreamCompletion subTag code x) s = .next u)) ∧
  (∀ (s : State) (v : Service) (dx dy : Option Sector) (x y : Sector), s.power = .running → s.service = some v →
    v.stage = .testing → v.discard = false → v.struck = false → s.queue = [] → s.lane = [] → s.dataLane = [] →
    s.heldPowerEnter = false → s.access ≠ .dormant →
    x = dx.getD (encipher s.vector.key s.vector.tweak s.vector.plain) →
    y = dy.getD (decipher s.vector.key s.vector.tweak x) →
    ((x = s.vector.expected ∧ y = s.vector.plain) ∨
        (dx = none ∧ dy = none ∧ s.vector.expected = encipher s.vector.key s.vector.tweak s.vector.plain) →
      s.sessionEnd = false →
      exec (.selfTestEnd dx dy) s = .next { s.answered v.tag .good v.code .noFields with service := none }) ∧
    (x ≠ s.vector.expected ∨ y ≠ s.vector.plain →
      exec (.selfTestEnd dx dy) s = .next { s.answered v.tag .fault v.code .noFields with
        service := none, access := .fault, faultCause := some .selfTest, sessionEnd := false, latch := false
        slots := Vector.replicate 16 KeySlot.empty, locks := Vector.replicate 16 Locks.both
        view := some View.empty, pendingView := none }))

/-! ## The authorization gate (section 6.1) -/

/-- Which requests that take an authorization block are served where, and the gate's first stages. QUERY RANGES with a block, QUERY
CREDENTIALS, SET CREDENTIAL, CHANGE SECRET, SET POLICY, BIND PLATFORM and FINALIZE are served in LOCKED, STAGED and OPEN, FINALIZE
not when the provisioning state is FINAL; WIPE in these and in FAULT; UNLOCK in LOCKED and OPEN; LOCK, SET LOCKS and END SESSION in
STAGED and OPEN; DEFINE RANGE, DELETE RANGE and IMAGE WRITE ENABLE in LOCKED; ERASE RANGE in LOCKED and OPEN. Elsewhere the answer
is WRONG_STATE, in WIPING it is WIPED and in FAULT, but for WIPE, FAULT, with no attempt counted and no state changed; one without
a block, QUERY RANGES apart, is answered NOT_PERMITTED. (WIPE in FAULT with cause STORE takes no block: see WipeBegins.) A request
that is served is stopped by the gate before any count moves: BACKOFF while the timer runs, else PLATFORM for an UNLOCK under a
binding policy that is not met, else CORRUPT for a slot so marked. With none of these and the writer idle, the attempt count raised
by one, or kept at 255, is being written before anything is verified, and the request awaits it (R85, R98, R99, R100, R122). -/
def Obligations.GateCountsBeforeItVerifies : Prop :=
  ∀ (s : State) (c : Instr) (tag : Byte) (t : Tag) (auth : AuthBlock) (r : Request) (served : List Access),
    c.capsule? = some (Capsule.request tag auth r) → r.wellFormed = true → s.Calm → s.FreeTag tag t →
    (match r with
      | .queryRanges | .queryCredentials | .setCredential .. | .changeSecret _ | .setPolicy .. | .bindPlatform .. | .finalize =>
          some [.locked, .staged, .opened]
      | .wipe => some [.locked, .staged, .opened, .fault]
      | .unlock _ => some [.locked, .opened]
      | .lock _ | .setLocks _ | .endSession => some [.staged, .opened]
      | .defineRange .. | .deleteRange _ | .imageWriteEnable => some [.locked]
      | .eraseRange _ => some [.locked, .opened]
      | .queryState | .setAttention | .selfTest | .takeOwnership _ | .presentPlatform _ => none) = some served →
    (r = .wipe → s.access = .fault → s.faultCause ≠ some .store) →
    (auth.slot = 255 → r ≠ .queryRanges → s.access ≠ .dormant →
      exec c s = .next (s.answered t .notPermitted r.code .noFields)) ∧
    ∀ i : SlotIndex, auth.slot.toNat = i.val →
      (s.access = .wiping → exec c s = .next (s.answered t .wiped r.code .noFields)) ∧
      (s.access = .fault → r ≠ .wipe → exec c s = .next (s.answered t .fault r.code .noFields)) ∧
      (s.InService → s.access ∉ served ∨ (r = .finalize ∧ s.provisioning = .final) →
        exec c s = .next (s.answered t .wrongState r.code .noFields)) ∧
      (s.access ∈ served → ¬ (r = .finalize ∧ s.provisioning = .final) →
        (s.backoff ≠ none → exec c s = .next (s.answered t .backoff r.code .noFields)) ∧
        (s.backoff = none →
          ((∃ h, r = .unlock h) ∧ s.copies.policy.binding ≠ .none ∧ s.platform ≠ .matched →
            exec c s = .next (s.answered t .platform r.code .noFields)) ∧
          (¬ ((∃ h, r = .unlock h) ∧ s.copies.policy.binding ≠ .none ∧ s.platform ≠ .matched) →
            (s.copies.credentials[i].corrupt = true → exec c s = .next (s.answered t .corrupt r.code .noFields)) ∧
            (s.copies.credentials[i].corrupt = false → s.writer = ⟨none, []⟩ →
              exec c s = .next { s with
                table := s.table.set t Entry.ofControl
                service := some ⟨t, r.code, r, some (i, auth.secret), s.access, .gateCount, false, false⟩
                writer := ⟨some ⟨.counters ⟨min 255 (s.copies.counters.attempts + 1), s.copies.counters.absences⟩,
                  [.channel]⟩, []⟩ }))))

/-- Stages 5 and 6, at the completion of the count's write: a secret verifies when the slot is an ACTIVE OWNER, USER or WIPE and the
digest of its salt and the secret is its verifier. Otherwise the answer is AUTH_FAILED with the raised count standing, and then a
wipe with reason ATTEMPTS is begun when the limit is reached, else the back-off starts when the count exceeds the free tries, for
2^min(c - F - 1, 10) seconds (R101, R102, R103). -/
def Obligations.GateFailureCounts : Prop :=
  ∀ (s : State) (v : Service) (i : SlotIndex) (secret : Secret) (n : Counters), s.power = .running → s.service = some v →
    v.stage = .gateCount → v.auth = some (i, secret) → v.discard = false → v.struck = false → s.queue = [] → s.lane = [] →
    s.dataLane = [] → s.sessionEnd = false → s.heldPowerEnter = false →
    s.writer = ⟨some ⟨.counters n, [.channel]⟩, []⟩ →
    ((s.credential i).verifies secret = false →
      (s.copies.policy.attemptLimit ≠ 0 ∧ s.copies.policy.attemptLimit ≤ n.attempts → s.access ≠ .fault →
        s.noneForwarded = true → s.engine.job = none →
        exec .storeWriteCompletion s = .next
          (({ (s.withCounters n).answered v.tag .authFailed v.code .noFields with
              service := none, writer := ⟨none, []⟩ } : State).wipeBegun .attempts s.copies.policy.depth s.keepOwner)) ∧
      (¬ (s.copies.policy.attemptLimit ≠ 0 ∧ s.copies.policy.attemptLimit ≤ n.attempts) →
        exec .storeWriteCompletion s = .next { (s.withCounters n).answered v.tag .authFailed v.code .noFields with
          service := none
          writer := ⟨none, []⟩
          backoff := if s.copies.policy.freeTries < n.attempts
            then some (2 ^ min (n.attempts - s.copies.policy.freeTries - 1) 10) else s.backoff })) ∧
    ((s.credential i).verifies secret = true ↔
      ∃ salt verifier, (s.credential i).salt = some salt ∧ (s.credential i).verifier = some verifier ∧
        (s.credential i).state = some .active ∧
        ((s.credential i).kind = .owner ∨ (s.credential i).kind = .user ∨ (s.credential i).kind = .wipe) ∧
        Config.secretDigest salt secret = verifier)

/-- Stage 7: after a successful verification both counts are set to 0 by a write of the counters record that the gate awaits; at
its completion a credential of a kind the request does not allow is answered NOT_PERMITTED with no other state changed, and one of
a kind it allows goes on to the request's own tests and effect; the reset stands in both cases. UNLOCK and END SESSION allow OWNER,
USER and WIPE; CHANGE SECRET, LOCK and SET LOCKS allow OWNER and USER; WIPE allows OWNER and WIPE; every other request that passes
the gate allows OWNER (R104, R108, R142). A slot 0 that owes range 0's wrap is the subject of the next statement. -/
def Obligations.GateResetsThenTestsTheKind : Prop :=
  ∀ (s : State) (v : Service) (i : SlotIndex) (secret : Secret), s.power = .running → s.service = some v →
    v.auth = some (i, secret) → v.discard = false → v.struck = false → s.queue = [] → s.lane = [] → s.dataLane = [] →
    s.sessionEnd = false → s.heldPowerEnter = false →
    (∀ n, v.stage = .gateCount → s.writer = ⟨some ⟨.counters n, [.channel]⟩, []⟩ →
      (s.credential i).verifies secret = true →
      exec .storeWriteCompletion s = .next { s.withCounters n with
        service := some { v with stage := .gateReset }
        writer := ⟨some ⟨.counters ⟨0, 0⟩, [.channel]⟩, []⟩ }) ∧
    (v.stage = .gateReset → s.writer = ⟨some ⟨.counters ⟨0, 0⟩, [.channel]⟩, []⟩ →
      ¬ (i = 0 ∧ s.lacksGlobalWrap = true) →
      ∀ kinds, (match v.request with
          | .unlock _ | .endSession => some [CredentialKind.owner, .user, .wipe]
          | .changeSecret _ | .lock _ | .setLocks _ => some [.owner, .user]
          | .wipe => some [.owner, .wipe]
          | .queryRanges | .queryCredentials | .setCredential .. | .defineRange .. | .deleteRange _ | .imageWriteEnable
          | .setPolicy .. | .bindPlatform .. | .finalize | .eraseRange _ => some [.owner]
          | .queryState | .setAttention | .selfTest | .takeOwnership _ | .presentPlatform _ => none) = some kinds →
      ((s.credential i).kind ∉ kinds →
        exec .storeWriteCompletion s = .next { (s.withCounters ⟨0, 0⟩).answered v.tag .notPermitted v.code .noFields with
          service := none, writer := ⟨none, []⟩ }) ∧
      ((s.credential i).kind ∈ kinds →
        let u := ({ s.withCounters ⟨0, 0⟩ with writer := ⟨none, []⟩ } : State).effect v i secret
        exec .storeWriteCompletion s = .next ({ u with writer := u.writer.beginNext } : State).settle))

/-- A request naming slot 0 whose owner record holds no current wrap for range 0: after the reset, slot 0 is being written with a
wrap of a new global key at range 0's generation under the owner's key-wrapping key, its other content unchanged but for stale
wraps, before the request goes on to its kind test (R95, R151). The new key is a free value (log entry 10). -/
def Obligations.OwnerGetsTheGlobalWrap : Prop :=
  ∀ (s : State) (v : Service) (secret : Secret) (c : Credential) (salt : Salt), s.power = .running → s.service = some v →
    v.stage = .gateReset → v.auth = some (0, secret) → v.struck = false → s.lane = [] → s.dataLane = [] →
    s.sessionEnd = false → s.heldPowerEnter = false → s.writer = ⟨some ⟨.counters ⟨0, 0⟩, [.channel]⟩, []⟩ →
    s.copies.credentials[(0 : SlotIndex)].record = some c → c.kind = .owner → c.salt = some salt →
    (∀ w ∈ c.wraps, w.range = 0 → w.generation ≠ s.copies.layout[(0 : RangeIndex)].generation) →
      exec .storeWriteCompletion s = .next { s.withCounters ⟨0, 0⟩ with
        service := some { v with stage := .ownerWrap }
        writer := ⟨some ⟨.credential 0 { c with
          wraps := putWrap (wrapKey (Config.wrappingKey secret salt) 0 s.copies.layout[(0 : RangeIndex)].generation
            (Config.freshKey s.draws)) (s.copies.layout.currentWraps c.wraps) }, [.channel]⟩, []⟩
        draws := s.draws + 1 }

/-! ## Requests of the owner and of users (sections 1.6, 4.6, 6.3, 6.5, 7.3, 7.4, 8.1 and 8.6)

Each of these is a request in a CONTROL capsule on a FREE tag of a calm part whose gate is open to it (`State.Ready`). Its command
leaves the raised count's write awaited, as GateCountsBeforeItVerifies says; the completions that follow carry it to its end. -/

/-- QUERY RANGES with the owner's block and QUERY CREDENTIALS, in LOCKED, STAGED and OPEN: after the gate's two writes the answer
GOOD carries the report, and nothing but the counts has changed. The first reports the media capacity M, the current view's
capacity, and for each of the sixteen indices the layout's entry, the range's locks, its slot's state, generation and use count,
and whether the current view has an entry of it. The second reports for each of the eight slots its kind and state and, when the
slot is not CORRUPT, the ranges of the wraps it holds at their ranges' present generations; a slot marked CORRUPT reports no range,
and one whose record could not be read no kind (R95, R132, R133). -/
def Obligations.OwnerReports : Prop :=
  ∀ (s : State) (tag : Byte) (t : Tag) (auth : AuthBlock) (i : SlotIndex), s.Ready tag t auth i →
    s.access = .locked ∨ s.access = .staged ∨ s.access = .opened → (s.credential i).kind = .owner →
    (∀ w, w = s.view.getD View.empty →
      ∃ a rs, exec (.queryRanges tag auth) s = .next a ∧
        runs a [.storeWriteCompletion, .storeWriteCompletion] = .next
          (s.grantedAnswer t .good 2 (.layout s.store.identity.capacity (w.entries.map ViewEntry.length).sum rs)) ∧
        rs.length = 16 ∧
        ∀ r : RangeIndex, rs[r.val]? = some ⟨r, s.copies.layout[r].defined, s.copies.layout[r].extent,
          s.copies.layout[r].concealable, s.copies.layout[r].image, s.copies.layout[r].writeProtected,
          s.copies.layout[r].lockOn, s.copies.layout[r].generation, s.locks[r].readLock, s.locks[r].writeLock,
          s.slots[r].state, s.slots[r].generation, s.slots[r].uses, w.entries.any fun e => decide (e.range = r)⟩) ∧
    (∃ a rs, exec (.queryCredentials tag auth) s = .next a ∧
      runs a [.storeWriteCompletion, .storeWriteCompletion] = .next (s.grantedAnswer t .good 3 (.credentials rs)) ∧
      rs.length = 8 ∧
      ∀ j : SlotIndex,
        (s.copies.credentials[j].record = none → rs[j.val]? = some ⟨none, some .corrupt, []⟩) ∧
        (∀ c, s.copies.credentials[j].record = some c →
          (s.copies.credentials[j].corrupt = true → rs[j.val]? = some ⟨some c.kind, some .corrupt, []⟩) ∧
          (s.copies.credentials[j].corrupt = false →
            rs[j.val]? = some ⟨some c.kind,
              match c.state with
              | none => none
              | some .active => some .active
              | some .disabled => some .disabled,
              (c.wraps.filter fun w => decide (w.generation = s.copies.layout[w.range].generation)).map Wrap.range⟩)))

/-- UNLOCK by an OWNER or a USER in LOCKED. The ranges of the open view whose current wraps the credential holds are loaded at
their wraps' generations, read-locks clear and write-locks as WRITE_PROTECTED says; every other range is both-locked. With
handover NOW the open view is current and the state OPEN; with AT_LINK_RESET it is pending and the state STAGED, and the response
goes at the load or, as a second event, before the next event but a LINK RESET, which may thus come between the two. A wrap that
does not check marks the slot CORRUPT and loads nothing; a handover above 1 is answered INVALID. And no open view shows a
concealable range that its credential does not reveal (R8, R9, R13, R14, R64, R107, R109). Which of the two it is is a free value
(log entry 45). A global range without a sector in the view is not loaded (DEDUCED, log entry 38). -/
def Obligations.UnlockOpensTheSession : Prop :=
  (∀ (s : State) (tag : Byte) (t : Tag) (auth : AuthBlock) (i : SlotIndex) (handover : Byte),
    s.Ready tag t auth i → s.access = .locked → (s.credential i).kind = .owner ∨ (s.credential i).kind = .user →
    s.copies.policy.binding = .none ∨ s.platform = .matched →
    (∀ keys view loaded, s.unwrapCurrent i auth.secret = some keys → (keys.map RangeKey.range).Nodup →
      view = s.copies.layout.openView s.capacity (s.credential i).wraps →
      loaded = keys.filter (fun k => view.shows k.range) →
      (handover = 0 → ∃ a, exec (.unlock tag auth handover) s = .next a ∧
        runs a [.storeWriteCompletion, .storeWriteCompletion] = .next
          { s.grantedAnswer t .good 18 (.unlocked view.capacity loaded.length 0) with
            access := .opened, latch := false, view := some view, pendingView := none
            slots := s.slotsWith loaded, locks := s.locksWith loaded fun _ => Locks.both }) ∧
      (handover = 1 → ∃ a, exec (.unlock tag auth handover) s = .next a ∧
        (Config.answerFollows s.draws = false → runs a [.storeWriteCompletion, .storeWriteCompletion] = .next
          { s.grantedAnswer t .good 18 (.unlocked view.capacity loaded.length 0) with
            access := .staged, latch := false, pendingView := some view, draws := s.draws + 1
            slots := s.slotsWith loaded, locks := s.locksWith loaded fun _ => Locks.both }) ∧
        (Config.answerFollows s.draws = true → runs a [.storeWriteCompletion, .storeWriteCompletion] = .next
          { s.granted t with
            table := s.table.set t Entry.ofControl
            service := some ⟨t, 18, .unlock handover, some (i, auth.secret), .locked,
              .answering (.unlocked view.capacity loaded.length 0), false, false⟩
            access := .staged, latch := false, pendingView := some view, draws := s.draws + 1
            slots := s.slotsWith loaded, locks := s.locksWith loaded fun _ => Locks.both }))) ∧
    (s.unwrapCurrent i auth.secret = none → handover = 0 ∨ handover = 1 → ∃ a,
      exec (.unlock tag auth handover) s = .next a ∧
      runs a [.storeWriteCompletion, .storeWriteCompletion] = .next ((s.grantedAnswer t .corrupt 18 .noFields).markCorrupt i)) ∧
    (handover ≠ 0 → handover ≠ 1 → ∃ a, exec (.unlock tag auth handover) s = .next a ∧
      runs a [.storeWriteCompletion, .storeWriteCompletion] = .next (s.grantedAnswer t .invalid 18 .noFields))) ∧
  (∀ (s u : State) (v : Service) (f : Response) (c : Instr), s.Busy v → v.stage = .answering f → s.queue = [] →
    u = { s.answered v.tag .good v.code f with service := none } →
    (c ≠ .linkReset → (∀ l, c ≠ .powerGood l) → exec c s = exec c u) ∧ (s.pending = [] → step s = step u)) ∧
  ∀ (l : Layout) (capacity : Nat) (ws : List Wrap) (r : RangeIndex), l[r].concealable = true → r ∉ l.revealed ws →
    (l.openView capacity ws).shows r = false

/-- UNLOCK by an OWNER or a USER in OPEN reloads the EMPTY slots of those ranges of the current view for which the credential holds
current wraps, skips the DRAINING ones, and changes neither the view nor any other range. In BLANK and STAGED it is answered
WRONG_STATE with no attempt counted. One served in OPEN whose gate ends in DORMANT, the hold of a POWER ENTER having ended
meanwhile, reloads and counts the same, and the LOW_POWER lock-on is applied to the ranges of the view at that event, so that those
reloaded that hold LOW_POWER are both-locked and EMPTY again (R65, R108, R110, R174, R181). That the lock-on follows such a reload is
deduced (DEDUCED, log entry 29). -/
def Obligations.UnlockReloadsInOpen : Prop :=
  (∀ (s : State) (tag : Byte) (t : Tag) (auth : AuthBlock) (i : SlotIndex) (handover : Byte), s.Ready tag t auth i →
    (∀ keys w loaded, s.access = .opened → (s.credential i).kind = .owner ∨ (s.credential i).kind = .user →
      s.copies.policy.binding = .none ∨ s.platform = .matched → s.view = some w →
      s.unwrapCurrent i auth.secret = some keys → (keys.map RangeKey.range).Nodup →
      loaded = keys.filter (fun k => w.shows k.range && decide (s.slots[k.range].state = .empty)) →
      ∃ a, exec (.unlock tag auth handover) s = .next a ∧
        runs a [.storeWriteCompletion, .storeWriteCompletion] = .next
          { s.grantedAnswer t .good 18 (.unlocked w.capacity loaded.length
              (keys.filter fun k => w.shows k.range && decide (s.slots[k.range].state = .draining)).length) with
            slots := s.slotsWith loaded, locks := s.locksWith loaded fun r => s.locks[r] }) ∧
    (s.access = .blank ∨ s.access = .staged →
      exec (.unlock tag auth handover) s = .next (s.answered t .wrongState 18 .noFields))) ∧
  ∀ (s : State) (v : Service) (i : SlotIndex) (secret : Secret) (handover : Byte) (keys loaded : List RangeKey) (w : View),
    s.Busy v → v.stage = .gateReset → v.request = .unlock handover → v.servedIn = .opened → v.auth = some (i, secret) →
    s.queue = [] → s.access = .dormant → s.resume = some .opened → s.view = some w →
    s.writer = ⟨some ⟨.counters ⟨0, 0⟩, [.channel]⟩, []⟩ → ¬ (i = 0 ∧ s.lacksGlobalWrap = true) →
    (s.credential i).kind = .owner ∨ (s.credential i).kind = .user →
    s.unwrapCurrent i secret = some keys → (keys.map RangeKey.range).Nodup →
    loaded = keys.filter (fun k => w.shows k.range && decide (s.slots[k.range].state = .empty)) →
    exec .storeWriteCompletion s = .next (({ (s.withCounters ⟨0, 0⟩).answered v.tag .good v.code (.unlocked w.capacity
        loaded.length (keys.filter fun k => w.shows k.range && decide (s.slots[k.range].state = .draining)).length) with
      service := none, writer := ⟨none, []⟩
      slots := s.slotsWith loaded, locks := s.locksWith loaded fun r => s.locks[r] } : State).afterLockOn w LockOn.lowPower)

/-- A wipe begins, with no entry FORWARDED: by WIPE from the owner or a WIPE credential in LOCKED, STAGED and OPEN, and in FAULT
with cause SELF_TEST, answered GOOD with reason ORDER first; by UNLOCK with a WIPE credential, answered WIPED first, with reason
DURESS; and by WIPE in FAULT with cause STORE, without authorization, with reason RECOVERY and depth MEDIA_AND_IMAGE when the policy
record was torn. The purge empties every slot, both-locks every range, stops the back-off and enters WIPING, and the wipe record is
being written. A WIPE, or a duress UNLOCK, that reaches its effect in DORMANT does the same, but that the part stays in DORMANT with
resume state WIPING. The owner is kept when the final flag is set and slot 0 is of kind OWNER and not marked CORRUPT. A WIPE in
FAULT that finds a recorded wipe resumes it, answered GOOD with the recorded reason and depth: in phase PURGE keep-owner is decided
anew and the layout is being rewritten, after the wipe record where the decision differs; in phase SANITIZE the first four steps go
from the cursor (here with no range excluded) (R68, R111, R142, R143, R146, R147, R148, R159, R161). That a wipe resumed in FAULT
with cause SELF_TEST is to end there, and stops no back-off timer, is deduced (DEDUCED, log entry 27). -/
def Obligations.WipeBegins : Prop :=
  (∀ s : State, s.keepOwner = true ↔ s.copies.policy.final = true ∧ s.copies.credentials[(0 : SlotIndex)].corrupt = false ∧
    ∃ c, s.copies.credentials[(0 : SlotIndex)].record = some c ∧ c.kind = .owner) ∧
  (∀ (s : State) (tag : Byte) (t : Tag) (auth : AuthBlock), s.engine.job = none → s.noneForwarded = true →
    (∀ i, s.Ready tag t auth i →
      (s.access = .locked ∨ s.access = .staged ∨ s.access = .opened →
        (s.credential i).kind = .owner ∨ (s.credential i).kind = .wipe →
        ∃ a, exec (.wipe tag auth) s = .next a ∧ runs a [.storeWriteCompletion, .storeWriteCompletion] = .next
          ((s.grantedAnswer t .good 81 (.wipe .order s.copies.policy.depth)).wipeBegun .order s.copies.policy.depth
            s.keepOwner)) ∧
      (s.access = .fault → s.faultCause = some .selfTest → (s.credential i).kind = .owner ∨ (s.credential i).kind = .wipe →
        ∃ a, exec (.wipe tag auth) s = .next a ∧ runs a [.storeWriteCompletion, .storeWriteCompletion] = .next
          { (s.grantedAnswer t .good 81 (.wipe .order s.copies.policy.depth)).wipeBegun .order s.copies.policy.depth
              s.keepOwner with
            engine := ⟨some ⟨.purgeWrite, .order, s.copies.policy.depth, s.keepOwner, 0, true⟩, s.engine.sanitize⟩ }) ∧
      (∀ handover, s.access = .locked ∨ s.access = .opened → (s.credential i).kind = .wipe →
        s.copies.policy.binding = .none ∨ s.platform = .matched →
        ∃ a, exec (.unlock tag auth handover) s = .next a ∧
          runs a [.storeWriteCompletion, .storeWriteCompletion] = .next
            ((s.grantedAnswer t .wiped 18 .noFields).wipeBegun .duress s.copies.policy.depth s.keepOwner))) ∧
    (s.Calm → s.FreeTag tag t → blockSlot auth.slot ≠ none → s.writer = ⟨none, []⟩ → s.access = .fault →
      s.faultCause = some .store → ∀ d, d = (if s.scan.policyTorn then .mediaAndImage else s.copies.policy.depth) →
      exec (.wipe tag auth) s = .next ((s.answered t .good 81 (.wipe .recovery d)).wipeBegun .recovery d s.keepOwner))) ∧
  (∀ (s : State) (v : Service) (i : SlotIndex) (secret : Secret), s.Busy v → v.stage = .gateReset →
    v.auth = some (i, secret) → s.queue = [] → s.access = .dormant → s.engine.job = none → s.noneForwarded = true →
    s.writer = ⟨some ⟨.counters ⟨0, 0⟩, [.channel]⟩, []⟩ → ¬ (i = 0 ∧ s.lacksGlobalWrap = true) →
    (v.request = .wipe → (s.credential i).kind = .owner ∨ (s.credential i).kind = .wipe →
      exec .storeWriteCompletion s = .next
        (({ (s.withCounters ⟨0, 0⟩).answered v.tag .good v.code (.wipe .order s.copies.policy.depth) with
            service := none, writer := ⟨none, []⟩ } : State).wipeBegun .order s.copies.policy.depth s.keepOwner)) ∧
    (∀ handover, v.request = .unlock handover → (s.credential i).kind = .wipe →
      exec .storeWriteCompletion s = .next
        (({ (s.withCounters ⟨0, 0⟩).answered v.tag .wiped v.code .noFields with
            service := none, writer := ⟨none, []⟩ } : State).wipeBegun .duress s.copies.policy.depth s.keepOwner))) ∧
  ∀ (s u : State) (tag : Byte) (t : Tag) (auth : AuthBlock) (j : WipeJob) (selfTest : Bool) (cs : List Instr),
    s.engine = ⟨some j, none⟩ → s.access = .fault → s.writer = ⟨none, []⟩ →
    (s.faultCause = some .store ∧ selfTest = false ∧ s.Calm ∧ s.FreeTag tag t ∧ blockSlot auth.slot ≠ none ∧ cs = [] ∧
        u = s.answered t .good 81 (.wipe j.reason j.depth)) ∨
      (s.faultCause = some .selfTest ∧ selfTest = true ∧
        (∃ i, s.Ready tag t auth i ∧ ((s.credential i).kind = .owner ∨ (s.credential i).kind = .wipe)) ∧
        cs = [.storeWriteCompletion, .storeWriteCompletion] ∧ u = s.grantedAnswer t .good 81 (.wipe j.reason j.depth)) →
    ∃ a, exec (.wipe tag auth) s = .next a ∧
      (∀ l : Layout, s.copies.wipe.phase = .purge → j.keepOwner = s.keepOwner →
        (∀ q : RangeIndex, l[q] =
          if q = 0 then { RangeEntry.global with generation := s.copies.layout[q].generation + 1 }
          else if j.keepOwner = true ∧ j.depth ≠ .mediaAndImage ∧ s.copies.layout[q].defined = true ∧
              s.copies.layout[q].image = true
            then { s.copies.layout[q] with generation := s.copies.layout[q].generation + 1 }
          else { RangeEntry.undefined with generation := s.copies.layout[q].generation + 1 }) →
        runs a cs = .next { u with
          access := .wiping, faultCause := none, latch := false, view := some View.empty, pendingView := none
          engine := ⟨some { j with stage := .layoutWrite, fromSelfTestFault := selfTest }, none⟩
          writer := ⟨some ⟨.layout l, [.engine]⟩, []⟩ }) ∧
      (s.copies.wipe.phase = .purge → j.keepOwner ≠ s.keepOwner →
        runs a cs = .next { u with
          access := .wiping, faultCause := none, latch := false, view := some View.empty, pendingView := none
          engine := ⟨some { j with stage := .purgeWrite, keepOwner := s.keepOwner, fromSelfTestFault := selfTest }, none⟩
          writer := ⟨some ⟨.wipe ⟨.purge, some j.reason, some j.depth, some s.keepOwner, none, none⟩, [.engine]⟩, []⟩ }) ∧
      (∀ c, s.copies.wipe.phase = .sanitize → s.copies.wipe.cursor = some c → ¬ (j.keepOwner = true ∧ j.depth = .media) →
        c + 4096 ≤ s.capacity → s.outstanding = [] →
        runs a cs = .next { u with
          access := .wiping, faultCause := none, latch := false, view := some View.empty, pendingView := none
          engine := ⟨some { j with stage := .sanitizing, fromSelfTestFault := selfTest }, some ⟨c + 4096,
            [⟨c, 1024, 64, .issued, false⟩, ⟨c + 1024, 1024, 65, .issued, false⟩,
              ⟨c + 2048, 1024, 66, .issued, false⟩, ⟨c + 3072, 1024, 67, .issued, false⟩], c⟩⟩
          outstanding := [64, 65, 66, 67]
          downstream := s.downstream ++ [.command .deallocate 64 c 1024, .command .deallocate 65 (c + 1024) 1024,
            .command .deallocate 66 (c + 2048) 1024, .command .deallocate 67 (c + 3072) 1024] })

/-- The course of a wipe from its record's write on. The rewrites, each begun as the one before it completes: the layout, with
every generation raised by one and every range but range 0 undefined, the IMAGE range kept when the owner is kept and the depth is
not MEDIA_AND_IMAGE; slot 0, the owner with the same salt and verifier and no wraps, or BLANK with an interim device wrap; the policy
defaults, when the owner is not kept; slots 1..7 EMPTY; counts 0. Depth KEYS then goes to the finish; MEDIA and MEDIA_AND_IMAGE write
phase SANITIZE with cursor 0 and send the first four steps. The finish writes slot 0 with the device wrap of a new global key, when
the owner is not kept, and then phase NONE with the reason and the skipped count; at that write's completion WIPE_DONE is set and the
part is LOCKED with its view when the owner is kept, else BLANK with slot 0 loaded from the device wrap; a wipe triggered in FAULT
with cause SELF_TEST ends in that FAULT. So a wipe of depth KEYS that does not keep the owner is BLANK after fourteen completed
writes, and one that keeps it LOCKED after twelve, the policy as it was (R147, R148, R149, R150, R153, R154). The new keys are free
values (log entry 10). That a finish unwraps its device wrap as at power-up is deduced (DEDUCED, log entry 36). -/
def Obligations.WipeOfKeysEndsBlank : Prop :=
  (∀ (s : State) (r : Reason), s.Calm → s.access = .wiping → s.NoKeys → (∀ q : RangeIndex, s.locks[q] = Locks.both) →
    s.engine = ⟨some ⟨.purgeWrite, r, .keys, false, 0, false⟩, none⟩ →
    s.writer = ⟨some ⟨.wipe ⟨.purge, some r, some .keys, some false, none, none⟩, [.engine]⟩, []⟩ →
    ∃ u, runs s (List.replicate 14 .storeWriteCompletion) = .next u ∧
      u.access = .blank ∧ u.provisioning = .blank ∧ u.view = some (View.full s.capacity) ∧ u.engine = ⟨none, none⟩ ∧
      u.writer = ⟨none, []⟩ ∧ u.notices = { s.notices with wipeDone := true } ∧
      u.store.layout = .intact u.copies.layout ∧
      (∀ q : RangeIndex, u.copies.layout[q] =
        if q = 0 then { RangeEntry.global with generation := s.copies.layout[q].generation + 1 }
        else { RangeEntry.undefined with generation := s.copies.layout[q].generation + 1 }) ∧
      (∀ i : SlotIndex, i ≠ 0 → u.store.credentials[i] = .intact Credential.empty ∧
        u.copies.credentials[i] = ⟨some Credential.empty, false⟩) ∧
      u.store.credentials[(0 : SlotIndex)] = .intact (.blank (wrapKey s.store.identity.deviceKey 0
        (s.copies.layout[(0 : RangeIndex)].generation + 1) (Config.freshKey (s.draws + 1)))) ∧
      u.store.policy = .intact Policy.defaults ∧ u.copies.policy = Policy.defaults ∧
      u.store.counters = .intact Counters.zero ∧ u.copies.counters = Counters.zero ∧
      u.store.wipe = .intact ⟨.none, some r, none, none, none, some 0⟩ ∧
      (∀ q : RangeIndex, u.slots[q].state = if q = 0 then .loaded else .empty) ∧
      u.slots[(0 : RangeIndex)] = ⟨.loaded, some (Config.freshKey (s.draws + 1)),
        some (s.copies.layout[(0 : RangeIndex)].generation + 1), 0⟩ ∧
      (∀ q : RangeIndex, u.locks[q] = if q = 0 then ⟨false, false⟩ else Locks.both)) ∧
  (∀ (s : State) (r : Reason) (d : Depth) (keep : Bool) (l : Layout) (owner : Credential) (g : Generation) (ws : List Content),
    s.Calm → s.access = .wiping → s.engine = ⟨some ⟨.purgeWrite, r, d, keep, 0, false⟩, none⟩ →
    s.writer = ⟨some ⟨.wipe ⟨.purge, some r, some d, some keep, none, none⟩, [.engine]⟩, []⟩ →
    (∀ q : RangeIndex, l[q] =
      if q = 0 then { RangeEntry.global with generation := s.copies.layout[q].generation + 1 }
      else if keep = true ∧ d ≠ .mediaAndImage ∧ s.copies.layout[q].defined = true ∧ s.copies.layout[q].image = true
        then { s.copies.layout[q] with generation := s.copies.layout[q].generation + 1 }
      else { RangeEntry.undefined with generation := s.copies.layout[q].generation + 1 }) →
    g = s.copies.layout[(0 : RangeIndex)].generation + 1 →
    (keep = true → ∃ c, s.copies.credentials[(0 : SlotIndex)].record = some c ∧ c.kind = .owner ∧
      owner = ⟨.owner, some .active, c.salt, c.verifier, []⟩) →
    (keep = false → owner = .blank (wrapKey s.store.identity.deviceKey 0 g (Config.freshKey s.draws))) →
    ws = [.layout l, .credential 0 owner] ++ (if keep then [] else [.policy Policy.defaults]) ++
      [.credential 1 Credential.empty, .credential 2 Credential.empty, .credential 3 Credential.empty,
        .credential 4 Credential.empty, .credential 5 Credential.empty, .credential 6 Credential.empty,
        .credential 7 Credential.empty, .counters ⟨0, 0⟩] ++
      (if d = .keys then
        (if keep then [] else [.credential 0 (.blank (wrapKey s.store.identity.deviceKey 0 g (Config.freshKey (s.draws + 1))))]) ++
          [.wipe ⟨.none, some r, none, none, none, some 0⟩]
      else [.wipe ⟨.sanitize, some r, some d, some keep, some 0, some 0⟩]) →
    (∀ (k : Nat) (h : k < ws.length), ∃ b, runs s (List.replicate (k + 1) .storeWriteCompletion) = .next b ∧
      b.access = .wiping ∧ b.writer = ⟨some ⟨ws[k], [.engine]⟩, []⟩) ∧
    (d ≠ .keys → 4096 ≤ s.capacity → s.outstanding = [] →
      (keep = true → d = .media → ∀ (q : RangeIndex) x n, l[q].image = true → l[q].extent = some (x, n) → 4096 < x) →
      ∃ u, runs s (List.replicate (ws.length + 1) .storeWriteCompletion) = .next u ∧
        u.access = .wiping ∧ u.writer = ⟨none, []⟩ ∧ u.copies.layout = l ∧ u.store.layout = .intact l ∧
        u.copies.wipe = ⟨.sanitize, some r, some d, some keep, some 0, some 0⟩ ∧ u.store.wipe = .intact u.copies.wipe ∧
        u.store.credentials[(0 : SlotIndex)] = .intact owner ∧
        u.store.policy = (if keep then s.store.policy else .intact Policy.defaults) ∧ u.outstanding = [64, 65, 66, 67] ∧
        u.downstream = s.downstream ++ [.command .deallocate 64 0 1024, .command .deallocate 65 1024 1024,
          .command .deallocate 66 2048 1024, .command .deallocate 67 3072 1024] ∧
        u.engine = ⟨some ⟨.sanitizing, r, d, keep, 0, false⟩, some ⟨4096, [⟨0, 1024, 64, .issued, false⟩,
          ⟨1024, 1024, 65, .issued, false⟩, ⟨2048, 1024, 66, .issued, false⟩, ⟨3072, 1024, 67, .issued, false⟩], 0⟩⟩) ∧
    (d = .keys → keep = true → ∃ u, runs s (List.replicate (ws.length + 1) .storeWriteCompletion) = .next u ∧
      u.access = .locked ∧ u.view = some l.imageView ∧ u.pendingView = none ∧ u.engine = ⟨none, none⟩ ∧ u.writer = ⟨none, []⟩ ∧
      u.notices = { s.notices with wipeDone := true } ∧ u.copies.layout = l ∧ u.store.layout = .intact l ∧
      u.copies.credentials[(0 : SlotIndex)] = ⟨some owner, false⟩ ∧ u.store.credentials[(0 : SlotIndex)] = .intact owner ∧
      (∀ i : SlotIndex, i ≠ 0 → u.store.credentials[i] = .intact Credential.empty ∧
        u.copies.credentials[i] = ⟨some Credential.empty, false⟩) ∧
      u.store.policy = s.store.policy ∧ u.copies.policy = s.copies.policy ∧
      u.store.counters = .intact ⟨0, 0⟩ ∧ u.copies.counters = ⟨0, 0⟩ ∧
      u.store.wipe = .intact ⟨.none, some r, none, none, none, some 0⟩ ∧ u.slots = s.slots ∧ u.locks = s.locks)) ∧
  ∀ (s u : State) (j : WipeJob) (x : WipeRecord), s.Calm → s.access = .wiping → s.engine.job = some j →
    x = ⟨.none, some j.reason, none, none, none, some j.skipped⟩ →
    (j.stage = .finishOwner → ∀ c, s.writer = ⟨some ⟨.credential 0 c, [.engine]⟩, []⟩ →
      exec .storeWriteCompletion s = .next { s.withCredential 0 c with
        engine := ⟨some { j with stage := .finishNone }, s.engine.sanitize⟩, writer := ⟨some ⟨.wipe x, [.engine]⟩, []⟩ }) ∧
    (j.stage = .finishNone → s.writer = ⟨some ⟨.wipe x, [.engine]⟩, []⟩ →
      u = { s with
        store := { s.store with wipe := .intact x }, copies := { s.copies with wipe := x }, engine := ⟨none, none⟩
        writer := ⟨none, []⟩, notices := { s.notices with wipeDone := true }, pendingView := none } →
      (j.fromSelfTestFault = true → exec .storeWriteCompletion s = .next { u with
        access := .fault, faultCause := some .selfTest, view := some View.empty, latch := false }) ∧
      (j.fromSelfTestFault = false → j.keepOwner = true → exec .storeWriteCompletion s = .next { u with
        access := .locked, view := some s.copies.layout.imageView }) ∧
      (∀ c w key, j.fromSelfTestFault = false → j.keepOwner = false →
        s.copies.credentials[(0 : SlotIndex)].record = some c → c.kind = .blank → c.wraps = [w] →
        unwrapKey s.store.identity.deviceKey w = some key →
        exec .storeWriteCompletion s = .next { u with
          access := .blank, view := some (View.full s.capacity), latch := false
          slots := s.slots.set 0 ⟨.loaded, some key, some s.copies.layout[(0 : RangeIndex)].generation, 0⟩
          locks := s.locks.set 0 ⟨false, false⟩ }))

/-- A downstream completion for a sanitize step. ABORTED sends the step's DEALLOCATE again; a first MEDIA_ERROR does so too and is
kept. GOOD makes the step DONE, and so does a second MEDIA_ERROR, with the step's length added to the skipped count, which stops
at M. With media left to issue, the next step, of at most 1024 sectors and ending before an excluded range that lies ahead, is
then made at the issue pointer, which moves to its end and over an excluded range that begins there, and sent on the same sub-tag.
When no step at or below the frontier is left ISSUED, the frontier rises to the lowest start of an ISSUED step, and the wipe
record with it as cursor is being written, awaited by nobody. With nothing left to issue and no step ISSUED the sanitize ends: the
frontier stands at the issue pointer, and the finish's first write joins behind the cursor's: the record of phase NONE when the
owner is kept, else slot 0 with a new device wrap (R150, R153, R154, R155, R156, R157). That the skipped count stops at M is
deduced (DEDUCED, log entry 30); the new key is a free value (log entry 10). -/
def Obligations.SanitizeStepCompletes : Prop :=
  ∀ (s : State) (subTag code : Byte) (x : Sector) (j : WipeJob) (z : Sanitize) (p : SanitizeStep), s.Calm →
    64 ≤ subTag.toNat → subTag.toNat ∈ s.outstanding → s.engine = ⟨some j, some z⟩ →
    (z.steps.find? fun q => decide (q.subTag = subTag.toNat) && decide (q.state = .issued)) = some p →
    (∀ o, o = insertNat subTag.toNat (s.outstanding.filter fun n => decide (n ≠ subTag.toNat)) →
      (code = 5 → exec (.downstreamCompletion subTag code x) s = .next { s with
        outstanding := o
        downstream := s.downstream ++ [.command .deallocate subTag.toNat p.start p.length] }) ∧
      (code ≠ 0 → code ≠ 5 → p.mediaError = false →
        exec (.downstreamCompletion subTag code x) s = .next { s with
          outstanding := o
          downstream := s.downstream ++ [.command .deallocate subTag.toNat p.start p.length]
          engine := ⟨some j, some { z with
            steps := z.steps.map fun q => if q.subTag = subTag.toNat then { q with mediaError := true } else q }⟩ }) ∧
      ∀ i : WipeJob, (code = 0 ∧ i = j) ∨
          (code ≠ 0 ∧ code ≠ 5 ∧ p.mediaError = true ∧ i = { j with skipped := min s.capacity (j.skipped + p.length) }) →
        (∀ n e u, z.issue < s.capacity →
          (s.excluded j = none → n = min 1024 (s.capacity - z.issue) ∧ e = z.issue + n) →
          (∀ y, s.excluded j = some y →
            n = (if z.issue < y.start then min (min 1024 (s.capacity - z.issue)) (y.start - z.issue)
              else min 1024 (s.capacity - z.issue)) ∧
            e = (if y.start ≤ z.issue + n ∧ z.issue + n < y.start + y.length then y.start + y.length else z.issue + n)) →
          u = { s with
            outstanding := o
            downstream := s.downstream ++ [.command .deallocate subTag.toNat z.issue n]
            engine := ⟨some i, some { z with
              issue := e
              steps := z.steps.filter (fun q => decide (q.subTag ≠ subTag.toNat)) ++
                [⟨z.issue, n, subTag.toNat, .issued, false⟩] }⟩ } →
          ((∃ q ∈ z.steps, q.subTag ≠ subTag.toNat ∧ q.state = .issued ∧ q.start ≤ z.frontier) →
            exec (.downstreamCompletion subTag code x) s = .next u) ∧
          (∀ m, z.frontier < m → m ≤ z.issue →
            (∀ q ∈ z.steps, q.subTag ≠ subTag.toNat → q.state = .issued → m ≤ q.start) →
            (m = z.issue ∨ ∃ q ∈ z.steps, q.subTag ≠ subTag.toNat ∧ q.state = .issued ∧ q.start = m) →
            s.writer = ⟨none, []⟩ →
            exec (.downstreamCompletion subTag code x) s = .next { u with
              engine := ⟨some i, u.engine.sanitize.map fun y => { y with frontier := m }⟩
              writer := ⟨some ⟨.wipe ⟨.sanitize, some i.reason, some i.depth, some i.keepOwner, some m, some i.skipped⟩, []⟩,
                []⟩ })) ∧
        (∀ u, s.capacity ≤ z.issue → (∀ q ∈ z.steps, q.subTag ≠ subTag.toNat → q.state = .done) → z.frontier < z.issue →
          s.access = .wiping → s.writer = ⟨none, []⟩ →
          u = { s with
            outstanding := s.outstanding.filter fun n => decide (n ≠ subTag.toNat)
            engine := ⟨some { i with stage := if i.keepOwner then .finishNone else .finishOwner }, some { z with
              frontier := z.issue
              steps := z.steps.map fun q : SanitizeStep => if q.subTag = subTag.toNat then { q with state := .done } else q }⟩ } →
          (i.keepOwner = true → exec (.downstreamCompletion subTag code x) s = .next { u with
            writer := ⟨some ⟨.wipe ⟨.sanitize, some i.reason, some i.depth, some true, some z.issue, some i.skipped⟩, []⟩,
              [⟨.wipe ⟨.none, some i.reason, none, none, none, some i.skipped⟩, [.engine]⟩]⟩ }) ∧
          (i.keepOwner = false → exec (.downstreamCompletion subTag code x) s = .next { u with
            draws := s.draws + 1
            writer := ⟨some ⟨.wipe ⟨.sanitize, some i.reason, some i.depth, some false, some z.issue, some i.skipped⟩, []⟩,
              [⟨.credential 0 (.blank (wrapKey s.store.identity.deviceKey 0 s.copies.layout[(0 : RangeIndex)].generation
                (Config.freshKey s.draws))), [.engine]⟩]⟩ })))

/-- SET CREDENTIAL by the owner in LOCKED, STAGED and OPEN. For EMPTY the target slot is written EMPTY; for USER and WIPE it is
written with a new salt, the verifier of the secret given and, for USER, the owner's keys of the ranges taken from the reveal
list, wrapped for that secret at their ranges' generations. Taken, in range order and once each, are the indices that name a
defined range, not the IMAGE range, for which the owner holds a current wrap; the others are dropped; for WIPE none is taken. A
target outside 1..7, a code outside the table, more than 16 indices or one above 15 is answered INVALID (R60, R115, R116). The
new salt is a free value (log entry 10). -/
def Obligations.SetCredentialWritesTheSlot : Prop :=
  ∀ (s : State) (tag : Byte) (t : Tag) (auth : AuthBlock) (target kind state : Byte) (secret : Secret) (reveal : List Byte),
    s.Ready tag t auth 0 → s.access = .locked ∨ s.access = .staged ∨ s.access = .opened →
    (s.credential 0).kind = .owner → reveal.length ≤ 255 →
    (∀ (i : SlotIndex) (st : CredentialState), i ≠ 0 → target.toNat = i.val → reveal.length ≤ 16 →
      (∀ b ∈ reveal, b.toNat < 16) → ((state = 0 ∧ st = .active) ∨ (state = 1 ∧ st = .disabled)) →
      (kind = 3 → ∃ a, exec (.setCredential tag auth target kind state secret reveal) s = .next a ∧
        runs a [.storeWriteCompletion, .storeWriteCompletion, .storeWriteCompletion] = .next
          ((s.grantedAnswer t .good 19 (.ranges [])).withCredential i Credential.empty)) ∧
      (∀ k taken keys, (kind = 1 ∧ k = .user) ∨ (kind = 2 ∧ k = .wipe) →
        taken = (allRanges.filter fun r => decide (k = .user) && (reveal.any fun b => decide (b.toNat = r.val)) &&
          s.copies.layout[r].defined && !s.copies.layout[r].image && (s.credential 0).wraps.any fun w =>
            decide (w.range = r) && decide (w.generation = s.copies.layout[r].generation)) →
        unwrapAll ((s.credential 0).wrappingKey auth.secret)
          ((s.copies.layout.currentWraps (s.credential 0).wraps).filter fun w => taken.contains w.range) = some keys →
        ∃ a, exec (.setCredential tag auth target kind state secret reveal) s = .next a ∧
          runs a [.storeWriteCompletion, .storeWriteCompletion, .storeWriteCompletion] = .next
            { (s.grantedAnswer t .good 19 (.ranges taken)).withCredential i
                ⟨k, some st, some (Config.freshSalt s.draws), some (Config.secretDigest (Config.freshSalt s.draws) secret),
                  keys.map fun q => wrapKey (Config.wrappingKey secret (Config.freshSalt s.draws)) q.range
                    s.copies.layout[q.range].generation q.key⟩ with
              draws := s.draws + 1 })) ∧
    (target.toNat = 0 ∨ 8 ≤ target.toNat ∨ kind = 0 ∨ 4 ≤ kind.toNat ∨ 2 ≤ state.toNat ∨ 16 < reveal.length ∨
        (∃ b ∈ reveal, 16 ≤ b.toNat) →
      ∃ a, exec (.setCredential tag auth target kind state secret reveal) s = .next a ∧
        runs a [.storeWriteCompletion, .storeWriteCompletion] = .next (s.grantedAnswer t .invalid 19 .noFields))

/-- CHANGE SECRET by an OWNER or a USER, in LOCKED, STAGED and OPEN: the slot keeps kind and state and is written with a new salt,
the verifier of the new secret and each of its current wraps' keys wrapped for it at the generation it held; a wrap that does not
check marks the slot CORRUPT instead. And keys wrapped under a key-wrapping key all come back under it (R95, R106, R107, R117).
The new salt is a free value (log entry 10). -/
def Obligations.ChangeSecretRewraps : Prop :=
  (∀ (s : State) (tag : Byte) (t : Tag) (auth : AuthBlock) (i : SlotIndex) (secret : Secret), s.Ready tag t auth i →
    s.access = .locked ∨ s.access = .staged ∨ s.access = .opened →
    (s.credential i).kind = .owner ∨ (s.credential i).kind = .user →
    (∀ keys, s.unwrapCurrent i auth.secret = some keys →
      ∃ a, exec (.changeSecret tag auth secret) s = .next a ∧
        runs a [.storeWriteCompletion, .storeWriteCompletion, .storeWriteCompletion] = .next
          { (s.grantedAnswer t .good 20 .noFields).withCredential i
              ⟨(s.credential i).kind, (s.credential i).state, some (Config.freshSalt s.draws),
                some (Config.secretDigest (Config.freshSalt s.draws) secret),
                keys.map fun q => wrapKey (Config.wrappingKey secret (Config.freshSalt s.draws)) q.range q.generation q.key⟩ with
            draws := s.draws + 1 }) ∧
    (s.unwrapCurrent i auth.secret = none →
      ∃ a, exec (.changeSecret tag auth secret) s = .next a ∧
        runs a [.storeWriteCompletion, .storeWriteCompletion] = .next
          ((s.grantedAnswer t .corrupt 20 .noFields).markCorrupt i))) ∧
  ∀ (kwk : Key) (ks : List RangeKey), unwrapAll kwk (ks.map fun q => wrapKey kwk q.range q.generation q.key) = some ks

/-- LOCK in OPEN and STAGED, by the owner or by a USER whose list names revealed ranges alone, both-locks the ranges named, or for
an empty list every range, from a USER every range revealed, with the effect of R66 on each slot; it is answered GOOD when every
slot taken is EMPTY then, and else held until they are. A list of a USER that names a range not revealed is answered NOT_PERMITTED;
an index above 15 or a 17th INVALID, from a USER NOT_PERMITTED where the list names what is not revealed too (DESIGN CHOICE, log
entry 44). END SESSION by any kind both-locks every range and drops the pending view; with every slot EMPTY the session ends in
LOCKED with its view, else a session end is pending and the request held. The completion that empties the last slot waited on ends
the hold: LOCK is answered GOOD; the session end completes in LOCKED, with or without a request, END SESSION answered GOOD; one that
leaves such a slot in use ends neither. A link reset that empties the slots ends a hold, each response being discarded and each
waiting request gone: a LOCK leaves; END SESSION leaves with its session end, a LOCKED part without lock-on; ERASE RANGE begins its
writes and SELF TEST its test. An end by a purge is stated in PurgeAbortsTraffic (R60, R66, R69, R71, R72, R74, R75, R76, R123,
R139, R163). -/
def Obligations.LockAndEndSessionDrain : Prop :=
  (∀ (s : State) (tag : Byte) (t : Tag) (auth : AuthBlock) (i : SlotIndex) (reveals : RangeIndex → Bool), s.Ready tag t auth i →
    s.access = .opened ∨ s.access = .staged →
    (∀ r, reveals r = (s.credential i).wraps.any fun w =>
      decide (w.range = r) && decide (w.generation = s.copies.layout[r].generation)) →
    (∀ (ranges : List Byte), ranges.length ≤ 255 →
      ((s.credential i).kind = .user → (∃ b ∈ ranges, ∀ r : RangeIndex, b.toNat = r.val → reveals r = false) →
        ∃ a, exec (.lock tag auth ranges) s = .next a ∧
          runs a [.storeWriteCompletion, .storeWriteCompletion] = .next (s.grantedAnswer t .notPermitted 32 .noFields)) ∧
      ((s.credential i).kind = .owner ∨
          ((s.credential i).kind = .user ∧ ∀ b ∈ ranges, ∃ r : RangeIndex, b.toNat = r.val ∧ reveals r = true) →
        (16 < ranges.length ∨ (∃ b ∈ ranges, 16 ≤ b.toNat) → ∃ a, exec (.lock tag auth ranges) s = .next a ∧
          runs a [.storeWriteCompletion, .storeWriteCompletion] = .next (s.grantedAnswer t .invalid 32 .noFields)) ∧
        (∀ (taken : List RangeIndex) (u : State), ranges.length ≤ 16 → (∀ b ∈ ranges, b.toNat < 16) →
          taken = (allRanges.filter fun r => if ranges.isEmpty then decide ((s.credential i).kind = .owner) || reveals r
            else ranges.any fun b => decide (b.toNat = r.val)) →
          u = { s with locks := s.locksBoth fun r => taken.contains r, slots := s.slotsBoth fun r => taken.contains r } →
          ((∀ r ∈ taken, u.slots[r].state = .empty) → ∃ a, exec (.lock tag auth ranges) s = .next a ∧
            runs a [.storeWriteCompletion, .storeWriteCompletion] = .next (u.grantedAnswer t .good 32 .noFields)) ∧
          ((∃ r ∈ taken, u.slots[r].state ≠ .empty) → ∃ a, exec (.lock tag auth ranges) s = .next a ∧
            runs a [.storeWriteCompletion, .storeWriteCompletion] = .next { u.granted t with
              table := s.table.set t Entry.ofControl
              service := some ⟨t, 32, .lock ranges, some (i, auth.secret), s.access, .holdLock taken, false, false⟩ })))) ∧
    (((s.credential i).kind = .owner ∨ (s.credential i).kind = .user ∨ (s.credential i).kind = .wipe) →
      ((∀ r : RangeIndex, s.allLocked.slots[r].state = .empty) → ∃ a, exec (.endSession tag auth) s = .next a ∧
        runs a [.storeWriteCompletion, .storeWriteCompletion] = .next (s.allLocked.grantedAnswer t .good 34 .noFields).inLocked) ∧
      ((∃ r : RangeIndex, s.allLocked.slots[r].state ≠ .empty) → ∃ a, exec (.endSession tag auth) s = .next a ∧
        runs a [.storeWriteCompletion, .storeWriteCompletion] = .next { s.allLocked.granted t with
          table := s.table.set t Entry.ofControl
          sessionEnd := true
          pendingView := none
          service := some ⟨t, 34, .endSession, some (i, auth.secret), s.access, .holdEndSession, false, false⟩ }))) ∧
  (∀ (s : State) (subTag code : Byte) (x : Sector) (t : Tag) (g : Segment) (st : Status) (u : State),
    s.EndsEntry subTag code t g st → u = s.entryEnded subTag t g st x → s.queue = [] →
    (∀ v rs, s.Busy v → v.stage = .holdLock rs →
      ((∀ r ∈ rs, u.slots[r].state = .empty) → exec (.downstreamCompletion subTag code x) s =
        .next { u.answered v.tag .good v.code .noFields with service := none }) ∧
      ((∃ r ∈ rs, u.slots[r].state ≠ .empty) → exec (.downstreamCompletion subTag code x) s = .next u)) ∧
    (s.sessionEnd = true → ({ s with service := none, sessionEnd := false } : State).Calm →
      (∀ w, (s.service = none ∧ w = u) ∨
        (∃ v, s.service = some v ∧ v.stage = .holdEndSession ∧ v.discard = false ∧
          w = { u.answered v.tag .good v.code .noFields with service := none }) →
        ((∀ r : RangeIndex, u.slots[r].state = .empty) → exec (.downstreamCompletion subTag code x) s = .next w.inLocked) ∧
        ((∃ r : RangeIndex, u.slots[r].state ≠ .empty) → exec (.downstreamCompletion subTag code x) s = .next u)))) ∧
  ∀ (s u : State) (v : Service), s.power = .running → s.service = some v → v.struck = false → s.lane = [] → s.dataLane = [] →
    s.heldPowerEnter = false → u = { s.afterStrike with queue := [] } →
    (v.stage = .holdEndSession → s.sessionEnd = true → s.access = .opened ∨ s.access = .staged →
      (∃ r : RangeIndex, s.slots[r].state ≠ .empty) → (∀ r : RangeIndex, u.slots[r].state = .empty) →
      exec .linkReset s = .next ({ u with service := none }.inLocked.answeredNotice .linkReset .good)) ∧
    (s.sessionEnd = false → ∀ b : State,
      ((s.access = .blank ∨ s.access = .locked) ∧ b = u) ∨
        (s.access = .staged ∧ b = { u with access := .opened, view := s.pendingView, pendingView := none }) ∨
        (s.access = .opened ∧ ∃ w, s.view = some w ∧ b = u.afterLockOn w LockOn.linkReset) →
      (∀ rs, v.stage = .holdLock rs → (∃ r ∈ rs, s.slots[r].state ≠ .empty) → (∀ r ∈ rs, u.slots[r].state = .empty) →
        exec .linkReset s = .next ({ b with service := none }.answeredNotice .linkReset .good)) ∧
      (∀ r g, v.stage = .holdErase r → s.slots[r].state ≠ .empty → u.slots[r].state = .empty → s.writer = ⟨none, []⟩ →
        g = s.copies.layout[r].generation + 1 →
        exec .linkReset s = .next ({ b with
          service := some { v with stage := .rangeLayout ⟨r, .erase, .generation g, 1⟩, discard := true }
          writer := ⟨some ⟨.layout (s.copies.layout.set r { s.copies.layout[r] with generation := g }), [.channel]⟩,
            []⟩ }.answeredNotice .linkReset .good)) ∧
      (v.stage = .holdTest → s.noneForwarded = false →
        exec .linkReset s = .next ({ b with service := some { v with stage := .testing, discard := true } }.answeredNotice
          .linkReset .good)))

/-- SET LOCKS in OPEN and STAGED, by the owner or by a USER whose entries name revealed ranges alone. With 1..16 entries, every
index at most 15, every code 0 or 1 and no range named twice: when an entry would clear a set lock of a range whose slot is not
LOADED the answer is LOCKED and nothing is applied; otherwise each range named has the locks given, a range newly both-locked has
its slot treated as R66 says, no key moves otherwise, and the answer is GOOD. With no entry, a 17th, an index above 15, a code above
1 or a range named twice the answer is INVALID; with an entry of a USER that names a range not revealed it is NOT_PERMITTED, also
where another test would answer INVALID (DESIGN CHOICE, log entry 44, for the tests of R60) (R60, R66, R67, R71, R73). -/
def Obligations.SetLocksApplies : Prop :=
  ∀ (s : State) (tag : Byte) (t : Tag) (auth : AuthBlock) (i : SlotIndex) (es : List LockEntry) (reveals : RangeIndex → Bool),
    s.Ready tag t auth i → s.access = .opened ∨ s.access = .staged → es.length ≤ 255 →
    (∀ r, reveals r = (s.credential i).wraps.any fun w =>
      decide (w.range = r) && decide (w.generation = s.copies.layout[r].generation)) →
    ((s.credential i).kind = .user → (∃ e ∈ es, ∀ r : RangeIndex, e.range.toNat = r.val → reveals r = false) →
      ∃ a, exec (.setLocks tag auth es) s = .next a ∧
        runs a [.storeWriteCompletion, .storeWriteCompletion] = .next (s.grantedAnswer t .notPermitted 33 .noFields)) ∧
    ((s.credential i).kind = .owner ∨
        ((s.credential i).kind = .user ∧ ∀ e ∈ es, ∃ r : RangeIndex, e.range.toNat = r.val ∧ reveals r = true) →
      (es = [] ∨ 16 < es.length ∨ ¬ (es.map LockEntry.range).Nodup ∨
          (∃ e ∈ es, 16 ≤ e.range.toNat ∨ 2 ≤ e.readLock.toNat ∨ 2 ≤ e.writeLock.toNat) →
        ∃ a, exec (.setLocks tag auth es) s = .next a ∧
          runs a [.storeWriteCompletion, .storeWriteCompletion] = .next (s.grantedAnswer t .invalid 33 .noFields)) ∧
      (∀ cs : List LockChange, 1 ≤ es.length → es.length ≤ 16 → (es.map LockEntry.range).Nodup →
        es.map (fun e => (e.range.toNat, e.readLock.toNat, e.writeLock.toNat)) =
          cs.map (fun c => (c.range.val, c.locks.readLock.toNat, c.locks.writeLock.toNat)) →
        ((∃ c ∈ cs, s.slots[c.range].state ≠ .loaded ∧
            ((s.locks[c.range].readLock = true ∧ c.locks.readLock = false) ∨
              (s.locks[c.range].writeLock = true ∧ c.locks.writeLock = false))) →
          ∃ a, exec (.setLocks tag auth es) s = .next a ∧
            runs a [.storeWriteCompletion, .storeWriteCompletion] = .next (s.grantedAnswer t .locked 33 .noFields)) ∧
        ((∀ c ∈ cs, s.slots[c.range].state = .loaded ∨
            ((s.locks[c.range].readLock = true → c.locks.readLock = true) ∧
              (s.locks[c.range].writeLock = true → c.locks.writeLock = true))) →
          ∃ a, exec (.setLocks tag auth es) s = .next a ∧
            runs a [.storeWriteCompletion, .storeWriteCompletion] = .next { s.grantedAnswer t .good 33 .noFields with
              locks := Vector.ofFn fun r : RangeIndex =>
                match cs.find? fun c => decide (c.range = r) with
                | some c => c.locks
                | none => s.locks[r]
              slots := Vector.ofFn fun r : RangeIndex =>
                if (cs.any fun c => decide (c.range = r) && decide (c.locks = Locks.both)) && decide (s.locks[r] ≠ Locks.both)
                then s.slots[r].bothLocked else s.slots[r] })))

/-- DEFINE RANGE by the owner in LOCKED. The extent is rounded inward to multiples of 8 and clamped to M, and taken when it is at
least 2048 sectors, disjoint from every other defined range, and for an IMAGE range at most 262144 sectors and the only one. Then
the layout, with the range's generation raised by one, the owner record with a wrap of a new key (none for an IMAGE range), and
each user record that names the range, without it, are written in this order, and the answer GOOD gives the extent. Any other
request is answered INVALID and changes no record but the counts (R18, R19, R20, R96). The new key is a free value (log entry
10). -/
def Obligations.DefineRangeTakesTheExtent : Prop :=
  ∀ (s : State) (tag : Byte) (t : Tag) (auth : AuthBlock) (index flags lockOn : Byte) (start length : BitVec 48)
    (image : Bool) (x : Nat × Nat) (fits : RangeIndex → Prop), s.Ready tag t auth 0 → s.access = .locked →
    (s.credential 0).kind = .owner → image = flags.getLsbD 1 →
    x = ((start.toNat + 7) / 8 * 8,
      min ((start.toNat + length.toNat) / 8 * 8) s.capacity - (start.toNat + 7) / 8 * 8) →
    (∀ r, fits r ↔ (image = true → flags.getLsbD 0 = false ∧ flags.getLsbD 2 = false ∧ lockOn.getLsbD 0 = false ∧
        lockOn.getLsbD 1 = false ∧ x.2 ≤ 262144 ∧
        ∀ q : RangeIndex, q ≠ r → s.copies.layout[q].defined = true → s.copies.layout[q].image = false) ∧ 2048 ≤ x.2 ∧
      ∀ q : RangeIndex, q ≠ r → s.copies.layout[q].defined = true → ∀ y, s.copies.layout[q].extent = some y →
        x.1 + x.2 ≤ y.1 ∨ y.1 + y.2 ≤ x.1) →
    (∀ (r : RangeIndex) (l : Layout) (owner : Credential), r ≠ 0 → index.toNat = r.val → fits r →
      l = s.copies.layout.set r ⟨true, some x, flags.getLsbD 0, image, flags.getLsbD 2,
        ⟨lockOn.getLsbD 0, lockOn.getLsbD 1⟩, s.copies.layout[r].generation + 1⟩ →
      owner = (if image then l.withoutRange r (s.credential 0) else
        { s.credential 0 with
          wraps := putWrap (wrapKey ((s.credential 0).wrappingKey auth.secret) r (s.copies.layout[r].generation + 1)
            (Config.freshKey s.draws)) (l.currentWraps (s.credential 0).wraps) }) →
      ∃ a, exec (.defineRange tag auth index flags lockOn start length) s = .next a ∧
        a.WritesInOrder 2 (s.rangeWrites l r (some owner)) ∧
        runs a (List.replicate (4 + (s.usersNaming r).length) .storeWriteCompletion) = .next
          { (((s.grantedAnswer t .good 48 (.extent x.1 x.2)).withLayout l).withCredential 0 owner).usersRewritten s l r with
            draws := if image then s.draws else s.draws + 1 }) ∧
    (index = 0 ∨ 16 ≤ index.toNat ∨ (∃ r : RangeIndex, index.toNat = r.val ∧ ¬ fits r) →
      ∃ a, exec (.defineRange tag auth index flags lockOn start length) s = .next a ∧
        runs a [.storeWriteCompletion, .storeWriteCompletion] = .next (s.grantedAnswer t .invalid 48 .noFields))

/-- DELETE RANGE by the owner in LOCKED makes a defined range 1..15 undefined with its generation raised by one, and removes its
wraps from the owner record, when it holds one, and from every user record that names it. ERASE RANGE by the owner in LOCKED and
OPEN both-locks a defined range that is not the IMAGE range, waits for its slot to be EMPTY, raises the generation, gives the
owner a wrap of a new key and removes the range from every user record that names it; in OPEN the range stays in the view,
both-locked and without a key. Each writes the layout first, then the owner record, then the user records in slot order; a held
ERASE RANGE goes on to these writes at the downstream completion that empties its slot. DELETE RANGE of index 0, ERASE RANGE of
the IMAGE range, and either of an index above 15 or of an undefined range, is answered INVALID and changes no record but the
counts (R2, R21, R96, R162, R163). The new key is a free value (log entry 10). -/
def Obligations.DeleteAndEraseWithdrawTheKey : Prop :=
  (∀ (s : State) (tag : Byte) (t : Tag) (auth : AuthBlock) (index : Byte), s.Ready tag t auth 0 →
    (s.credential 0).kind = .owner →
    (∀ (r : RangeIndex) (l : Layout) (owner : Option Credential), index.toNat = r.val → s.copies.layout[r].defined = true →
      s.access = .locked → r ≠ 0 →
      l = s.copies.layout.set r { RangeEntry.undefined with generation := s.copies.layout[r].generation + 1 } →
      owner = (if namesRange (s.credential 0).wraps r then some (l.withoutRange r (s.credential 0)) else none) →
      ∃ a, exec (.deleteRange tag auth index) s = .next a ∧
        a.WritesInOrder 2 (s.rangeWrites l r owner) ∧
        runs a (List.replicate (3 + (namesRange (s.credential 0).wraps r).toNat + (s.usersNaming r).length)
            .storeWriteCompletion) = .next
          ((if namesRange (s.credential 0).wraps r
            then ((s.grantedAnswer t .good 49 .noFields).withLayout l).withCredential 0 (l.withoutRange r (s.credential 0))
            else (s.grantedAnswer t .good 49 .noFields).withLayout l).usersRewritten s l r)) ∧
    (∀ (r : RangeIndex) (l : Layout) (owner : Credential) (u : State), index.toNat = r.val →
      s.copies.layout[r].defined = true → s.access = .locked ∨ s.access = .opened → s.copies.layout[r].image = false →
      l = s.copies.layout.set r { s.copies.layout[r] with generation := s.copies.layout[r].generation + 1 } →
      owner = { s.credential 0 with
        wraps := putWrap (wrapKey ((s.credential 0).wrappingKey auth.secret) r (s.copies.layout[r].generation + 1)
          (Config.freshKey s.draws)) (l.currentWraps (s.credential 0).wraps) } →
      u = { s with locks := s.locksBoth fun q => decide (q = r), slots := s.slotsBoth fun q => decide (q = r) } →
      (u.slots[r].state = .empty →
        ∃ a, exec (.eraseRange tag auth index) s = .next a ∧
          a.WritesInOrder 2 (s.rangeWrites l r (some owner)) ∧
          runs a (List.replicate (4 + (s.usersNaming r).length) .storeWriteCompletion) = .next
            { (((u.grantedAnswer t .good 80 (.generation (s.copies.layout[r].generation + 1))).withLayout l).withCredential 0
                owner).usersRewritten s l r with
              draws := s.draws + 1 }) ∧
      (u.slots[r].state ≠ .empty →
        ∃ a, exec (.eraseRange tag auth index) s = .next a ∧
          runs a [.storeWriteCompletion, .storeWriteCompletion] = .next { u.granted t with
            table := s.table.set t Entry.ofControl
            service := some ⟨t, 80, .eraseRange index, some (0, auth.secret), s.access, .holdErase r, false, false⟩ })) ∧
    (s.access = .locked →
      index = 0 ∨ 16 ≤ index.toNat ∨ (∃ r : RangeIndex, index.toNat = r.val ∧ s.copies.layout[r].defined = false) →
      ∃ a, exec (.deleteRange tag auth index) s = .next a ∧
        runs a [.storeWriteCompletion, .storeWriteCompletion] = .next (s.grantedAnswer t .invalid 49 .noFields)) ∧
    (s.access = .locked ∨ s.access = .opened →
      16 ≤ index.toNat ∨ (∃ r : RangeIndex, index.toNat = r.val ∧
        (s.copies.layout[r].defined = false ∨ s.copies.layout[r].image = true)) →
      ∃ a, exec (.eraseRange tag auth index) s = .next a ∧
        runs a [.storeWriteCompletion, .storeWriteCompletion] = .next (s.grantedAnswer t .invalid 80 .noFields))) ∧
  ∀ (s : State) (v : Service) (r : RangeIndex) (subTag code : Byte) (x : Sector) (t : Tag) (g : Segment) (st : Status) (l : Layout)
    (u a : State),
    s.Busy v → v.stage = .holdErase r → s.writer = ⟨none, []⟩ → s.EndsEntry subTag code t g st →
    u = s.entryEnded subTag t g st x →
    l = s.copies.layout.set r { s.copies.layout[r] with generation := s.copies.layout[r].generation + 1 } →
    a = { u with
      service := some { v with
        stage := .rangeLayout ⟨r, .erase, .generation (s.copies.layout[r].generation + 1), 1⟩ }
      writer := ⟨some ⟨.layout l, [.channel]⟩, []⟩ } →
    (u.slots[r].state = .empty → exec (.downstreamCompletion subTag code x) s = .next a ∧
      ∀ (secret : Secret) (owner : Credential), v.auth = some (0, secret) → s.queue = [] →
        s.copies.credentials[(0 : SlotIndex)].corrupt = false →
        owner = { s.credential 0 with
          wraps := putWrap (wrapKey ((s.credential 0).wrappingKey secret) r (s.copies.layout[r].generation + 1)
            (Config.freshKey s.draws)) (l.currentWraps (s.credential 0).wraps) } →
        a.WritesInOrder 0 (s.rangeWrites l r (some owner))) ∧
    (u.slots[r].state ≠ .empty → exec (.downstreamCompletion subTag code x) s = .next u)

/-- IMAGE WRITE ENABLE by the owner in LOCKED sets the image write latch and answers GOOD, writing no record but the counts; in
BLANK, STAGED and OPEN it is answered WRONG_STATE with no attempt counted (R16, R138). -/
def Obligations.ImageWriteEnableSetsTheLatch : Prop :=
  ∀ (s : State) (tag : Byte) (t : Tag) (auth : AuthBlock) (i : SlotIndex), s.Ready tag t auth i →
    (s.access = .locked → (s.credential i).kind = .owner → ∃ a, exec (.imageWriteEnable tag auth) s = .next a ∧
      runs a [.storeWriteCompletion, .storeWriteCompletion] = .next
        { s.grantedAnswer t .good 50 .noFields with latch := true }) ∧
    (s.access = .blank ∨ s.access = .staged ∨ s.access = .opened →
      exec (.imageWriteEnable tag auth) s = .next (s.answered t .wrongState 50 .noFields))

/-- SET POLICY by the owner in LOCKED, STAGED and OPEN writes the policy record with the five values that R135 takes, its final
flag, binding policy and platform digest unchanged, even when every value equals the one held, and answers GOOD with them at the
write's completion. An enclosure policy or wipe depth outside its values is answered INVALID; in BLANK it is answered WRONG_STATE
with no attempt counted; a credential of another kind, or none, is answered NOT_PERMITTED (R134). -/
def Obligations.SetPolicyWritesTheValuesTaken : Prop :=
  ∀ (s : State) (tag : Byte) (t : Tag) (auth : AuthBlock) (i : SlotIndex) (f l a enclosure depth : Byte),
    s.Ready tag t auth i →
    (s.access = .locked ∨ s.access = .staged ∨ s.access = .opened → (s.credential i).kind = .owner →
      (∀ e d p, ((enclosure = 0 ∧ e = .ignore) ∨ (enclosure = 1 ∧ e = .lock) ∨ (enclosure = 2 ∧ e = .wipe)) →
        ((depth = 0 ∧ d = .keys) ∨ (depth = 1 ∧ d = .media) ∨ (depth = 2 ∧ d = .mediaAndImage)) →
        p = s.copies.policy.take s.isFinal f.toNat l.toNat a.toNat e d →
        p.final = s.copies.policy.final ∧ p.binding = s.copies.policy.binding ∧ p.digest = s.copies.policy.digest ∧
        ∃ b, exec (.setPolicy tag auth f l a enclosure depth) s = .next b ∧
          runs b [.storeWriteCompletion, .storeWriteCompletion, .storeWriteCompletion] = .next
            ((s.grantedAnswer t .good 64 (.policy p.freeTries p.attemptLimit p.absenceLimit p.enclosure p.depth)).withPolicy p)) ∧
      (3 ≤ enclosure.toNat ∨ 3 ≤ depth.toNat →
        ∃ b, exec (.setPolicy tag auth f l a enclosure depth) s = .next b ∧
          runs b [.storeWriteCompletion, .storeWriteCompletion] = .next (s.grantedAnswer t .invalid 64 .noFields))) ∧
    (s.access = .blank → exec (.setPolicy tag auth f l a enclosure depth) s = .next (s.answered t .wrongState 64 .noFields)) ∧
    (s.access = .locked ∨ s.access = .staged ∨ s.access = .opened → (s.credential i).kind ≠ .owner →
      ∃ b, exec (.setPolicy tag auth f l a enclosure depth) s = .next b ∧
        runs b [.storeWriteCompletion, .storeWriteCompletion] = .next (s.grantedAnswer t .notPermitted 64 .noFields)) ∧
    (s.access ≠ .dormant → ∀ x,
      exec (.setPolicy tag ⟨noBlock, x⟩ f l a enclosure depth) s = .next (s.answered t .notPermitted 64 .noFields))

/-- The values a policy takes. Step 1 clamps: free tries to 1..16, the attempt limit, unless 0, to one above them..200, the absence
limit to 0..250. Outside FINAL these are taken. In FINAL each field, judged alone, keeps the value held where the value of step 1
is less strict, and takes the value of step 1 where it is not: more free tries are less strict, so is a greater limit, 0 being the
least strict, and the enclosure policies and depths stand in the order IGNORE, LOCK, WIPE and KEYS, MEDIA, MEDIA_AND_IMAGE. So no
field becomes less strict; the final flag, the binding policy and the digest stay, and a policy that is legal stays legal (R84,
R135). -/
def Obligations.PolicyOnlyTightens : Prop :=
  ∀ (p q : Policy) (final : Bool) (f l a f1 l1 a1 : Nat) (e : EnclosurePolicy) (d : Depth), q = p.take final f l a e d →
    f1 = min 16 (max 1 f) → l1 = (if l = 0 then 0 else min 200 (max (f1 + 1) l)) → a1 = min 250 a →
    (final = false → q.freeTries = f1 ∧ q.attemptLimit = l1 ∧ q.absenceLimit = a1 ∧ q.enclosure = e ∧ q.depth = d) ∧
    (final = true →
      q.freeTries = (if p.freeTries < f1 then p.freeTries else f1) ∧
      q.attemptLimit = (if p.attemptLimit ≠ 0 ∧ (l1 = 0 ∨ p.attemptLimit < l1) then p.attemptLimit else l1) ∧
      q.absenceLimit = (if p.absenceLimit ≠ 0 ∧ (a1 = 0 ∨ p.absenceLimit < a1) then p.absenceLimit else a1) ∧
      q.enclosure = (if (p.enclosure = .wipe ∧ e ≠ .wipe) ∨ (p.enclosure = .lock ∧ e = .ignore) then p.enclosure else e) ∧
      q.depth = (if (p.depth = .mediaAndImage ∧ d ≠ .mediaAndImage) ∨ (p.depth = .media ∧ d = .keys) then p.depth else d)) ∧
    (final = true → q.freeTries ≤ p.freeTries ∧
      (p.attemptLimit ≠ 0 → q.attemptLimit ≠ 0 ∧ q.attemptLimit ≤ p.attemptLimit) ∧
      (p.absenceLimit ≠ 0 → q.absenceLimit ≠ 0 ∧ q.absenceLimit ≤ p.absenceLimit) ∧
      p.enclosure.strictness ≤ q.enclosure.strictness ∧ p.depth.strictness ≤ q.depth.strictness) ∧
    q.final = p.final ∧ q.binding = p.binding ∧ q.digest = p.digest ∧ (p.legal = true → q.legal = true)

/-- BIND PLATFORM by the owner in LOCKED, STAGED and OPEN writes the binding policy and the digest of the token, none of it for
NONE; when the provisioning state is FINAL a less strict policy leaves the record's content as it was; a policy byte above 2 is
answered INVALID. FINALIZE sets the final flag when the attempt limit is on, and is answered INVALID when it is 0. With no attempt
counted, both are answered WRONG_STATE in BLANK, and FINALIZE when the provisioning state is FINAL already (R136, R137). -/
def Obligations.BindPlatformAndFinalize : Prop :=
  ∀ (s : State) (tag : Byte) (t : Tag) (auth : AuthBlock),
    (s.Ready tag t auth 0 → s.access = .locked ∨ s.access = .staged ∨ s.access = .opened → (s.credential 0).kind = .owner →
      (∀ (policy : Byte) (token : Token) (b : BindingPolicy) (p : Policy),
        ((policy = 0 ∧ b = .none) ∨ (policy = 1 ∧ b = .deny) ∨ (policy = 2 ∧ b = .wipe)) →
        p = (if s.copies.policy.final = true ∧ b.strictness < s.copies.policy.binding.strictness then s.copies.policy
          else { s.copies.policy with binding := b, digest := if b = .none then none else some (Config.tokenDigest token) }) →
        ∃ a, exec (.bindPlatform tag auth policy token) s = .next a ∧
          runs a [.storeWriteCompletion, .storeWriteCompletion, .storeWriteCompletion] = .next
            ((s.grantedAnswer t .good 65 (.binding p.binding)).withPolicy p)) ∧
      (∀ (policy : Byte) (token : Token), 3 ≤ policy.toNat →
        ∃ a, exec (.bindPlatform tag auth policy token) s = .next a ∧
          runs a [.storeWriteCompletion, .storeWriteCompletion] = .next (s.grantedAnswer t .invalid 65 .noFields)) ∧
      (s.copies.policy.final = false → s.copies.policy.attemptLimit ≠ 0 →
        ∃ a, exec (.finalize tag auth) s = .next a ∧
          runs a [.storeWriteCompletion, .storeWriteCompletion, .storeWriteCompletion] = .next
            ((s.grantedAnswer t .good 66 .noFields).withPolicy { s.copies.policy with final := true })) ∧
      (s.copies.policy.final = false → s.copies.policy.attemptLimit = 0 →
        ∃ a, exec (.finalize tag auth) s = .next a ∧
          runs a [.storeWriteCompletion, .storeWriteCompletion] = .next (s.grantedAnswer t .invalid 66 .noFields))) ∧
    (∀ i : SlotIndex, s.Calm → s.FreeTag tag t → auth.slot.toNat = i.val →
      (s.access = .blank → ∀ (policy : Byte) (token : Token),
        exec (.bindPlatform tag auth policy token) s = .next (s.answered t .wrongState 65 .noFields)) ∧
      (s.access = .blank ∨ (s.access = .locked ∨ s.access = .staged ∨ s.access = .opened) ∧ s.provisioning = .final →
        exec (.finalize tag auth) s = .next (s.answered t .wrongState 66 .noFields)))

/-! ## The Record Store (chapter 5) -/

/-- The completion of the write in progress, for a write that nobody awaits: its record holds the new content whole, its working
copy takes it (a credential's CORRUPT mark is cleared; in LOCKED a new layout gives the current view), and the writer begins the
write at the head of its queue. With none in progress nothing happens. A request to write a record, with at most one write queued
for each record: an idle writer with an empty queue begins it at once; otherwise the write in progress keeps its content, the
request joins at the tail, or replaces the content queued for its record in its place, and whoever awaited a queued write still
awaits it. The queue goes on holding at most one write for each record, so at most twelve (R12, R82, R87, R88, R89). That a
completion with no write in progress does nothing is the model's (DESIGN CHOICE, log entry 8). -/
def Obligations.StoreWriterWorks : Prop :=
  (∀ (s : State), s.Calm →
    (∀ w q u, s.writer = ⟨some w, q⟩ → w.waiters = [] → s.access ≠ .dormant →
      ((∃ i c, w.content = .credential i c ∧ u = s.withCredential i c) ∨ (∃ l, w.content = .layout l ∧ u = s.withLayout l) ∨
        (∃ p, w.content = .policy p ∧ u = s.withPolicy p) ∨ (∃ c, w.content = .counters c ∧ u = s.withCounters c) ∨
        (∃ x, w.content = .wipe x ∧ u = { s with
          store := { s.store with wipe := .intact x }, copies := { s.copies with wipe := x } })) →
      exec .storeWriteCompletion s = .next { u with writer := ⟨q.head?, q.tail⟩ }) ∧
    (s.writer.current = none → exec .storeWriteCompletion s = .next s)) ∧
  (∀ (s : State) (c : Content) (who : List Waiter), (s.writer.queue.map fun w => w.content.record).Nodup →
    (s.writer = ⟨none, []⟩ → s.requestWrite c who = { s with writer := ⟨some ⟨c, who⟩, []⟩ }) ∧
    (s.writer ≠ ⟨none, []⟩ →
      ∃ q, s.requestWrite c who = { s with writer := ⟨s.writer.current, q⟩ } ∧
        (q.map fun w => w.content.record).Nodup ∧ q.length ≤ 12 ∧
        (c.record ∉ (s.writer.queue.map fun w => w.content.record) → q = s.writer.queue ++ [⟨c, who⟩]) ∧
        (c.record ∈ (s.writer.queue.map fun w => w.content.record) →
          q.map (fun w => w.content.record) = s.writer.queue.map (fun w => w.content.record) ∧
          ∃ w ∈ s.writer.queue, w.content.record = c.record ∧ ⟨c, w.waiters ++ who⟩ ∈ q) ∧
        ∀ w ∈ s.writer.queue, w.content.record ≠ c.record → w ∈ q))

/-! ## Power (chapters 5 and 9) -/

/-- A power loss ends every activity: all volatile state goes to the values of a part without power, and of the store only the
record of a write in progress may change: it keeps its old content, holds the new one, or is torn, as the loss falls; queued
writes are gone. R181 has no wipe recorded after a loss before a wipe's first PURGE write completes, where R90 lets that write too
be torn: whether a loss tears it or leaves it old is a free value (DESIGN CHOICE, log entry 47), and both are stated. Without power
nothing happens. Power-good, with power off: every volatile field takes its start value, the level is the enclosure line's first
sample, and the scan sets each working copy from its record: as read when the record is sound, and by its kind when it is torn.
The torn counters and wipe records are being repaired, in this order; with neither torn the self-test runs. With power on nothing
happens (R56, R90, R91, R92, R93, R94, R125, R144, R147, R165, R166, R181). Deduced are which fields make a record torn (DEDUCED,
log entries 12 and 13) and that the lanes are empty and no command but POWER_GOOD acts without power (DEDUCED, log entry 7). The
model's own (DESIGN CHOICE) are the values of `State.unpowered` where the manual gives volatile state none (log entry 2), with the
access value `starting` (log entry 33); that the scan is the one event POWER_GOOD, its repair writes awaited as commands (log entry
34); of a torn layout's copy, the generations 0 and the clear flags and lock-on sets (log entry 39); and that POWER_LOSS without
power and POWER_GOOD with power do nothing (log entry 8). -/
def Obligations.PowerCycle : Prop :=
  (∀ (s : State) (cut : WriteCut),
    (s.power ≠ .off →
      (s.writer.current = none ∨ cut = .oldContent →
        exec (.powerLoss cut) s = .next (State.unpowered s.store s.vector s.draws s.pending)) ∧
      (∀ w x y, s.writer.current = some w → w.content = .wipe x → x.phase = .purge → s.store.wipe = .intact y → y.phase = .none →
        cut = .torn → Config.firstPurgeTears = false →
        exec (.powerLoss cut) s = .next (State.unpowered s.store s.vector s.draws s.pending)) ∧
      ∀ w, s.writer.current = some w →
        (∀ x y, w.content = .wipe x → x.phase = .purge → s.store.wipe = .intact y → y.phase = .none → cut = .torn →
          Config.firstPurgeTears = true) → ∃ st,
        (cut ≠ .oldContent → exec (.powerLoss cut) s = .next (State.unpowered st s.vector s.draws s.pending)) ∧
        st.identity = s.store.identity ∧
        (∀ i : SlotIndex, st.credentials[i] = if w.content.record = .credential i ∧ cut ≠ .oldContent
          then (match cut, w.content with | .newContent, .credential _ c => .intact c | _, _ => .torn)
          else s.store.credentials[i]) ∧
        st.layout = (if w.content.record = .layout ∧ cut ≠ .oldContent
          then (match cut, w.content with | .newContent, .layout l => .intact l | _, _ => .torn) else s.store.layout) ∧
        st.policy = (if w.content.record = .policy ∧ cut ≠ .oldContent
          then (match cut, w.content with | .newContent, .policy p => .intact p | _, _ => .torn) else s.store.policy) ∧
        st.counters = (if w.content.record = .counters ∧ cut ≠ .oldContent
          then (match cut, w.content with | .newContent, .counters c => .intact c | _, _ => .torn) else s.store.counters) ∧
        st.wipe = (if w.content.record = .wipe ∧ cut ≠ .oldContent
          then (match cut, w.content with | .newContent, .wipe x => .intact x | _, _ => .torn) else s.store.wipe)) ∧
    (s.power = .off → exec (.powerLoss cut) s = .next s)) ∧
  (∀ (s : State) (level : Level),
    (s.power = .off → ∃ u, exec (.powerGood level) s = .next u ∧
      u = { State.unpowered s.store s.vector s.draws s.pending with
        level := level, power := u.power, copies := u.copies, scan := u.scan, writer := u.writer, engine := u.engine } ∧
      (∀ i : SlotIndex, u.copies.credentials[i] = match s.store.credentials[i].read fun c => c.legal i with
        | some c => ⟨some c, false⟩
        | none => ⟨none, true⟩) ∧
      u.copies.layout = ((s.store.layout.read fun l => l.legal s.store.identity.capacity).getD
        ((Vector.replicate 16 RangeEntry.undefined).set 0 RangeEntry.global)) ∧
      u.copies.policy = ((s.store.policy.read Policy.legal).getD ⟨false, 5, 0, 0, .ignore, .none, none, .keys⟩) ∧
      u.copies.counters = ((s.store.counters.read Counters.legal).getD
        ⟨if u.copies.policy.attemptLimit = 0 then u.copies.policy.freeTries else u.copies.policy.attemptLimit - 1,
          if u.copies.policy.absenceLimit = 0 then 0 else u.copies.policy.absenceLimit - 1⟩) ∧
      u.copies.wipe = ((s.store.wipe.read fun w => w.legal s.store.identity.capacity).getD
        ⟨.purge, some .recovery,
          some (if s.store.policy.read Policy.legal = none then .mediaAndImage else u.copies.policy.depth), some false, none, none⟩) ∧
      (u.scan.storeFault = true ↔ s.store.policy.read Policy.legal = none ∨
        s.store.layout.read (fun l => l.legal s.store.identity.capacity) = none ∨
        s.store.credentials[(0 : SlotIndex)].read (fun c => c.legal 0) = none) ∧
      u.engine.sanitize = none ∧ (u.engine.job = none ↔ u.copies.wipe.phase = .none) ∧
      (∀ counters wipe, counters = (s.store.counters.read Counters.legal).isNone →
        wipe = (s.store.wipe.read fun w => w.legal s.store.identity.capacity).isNone →
        u.power = (match counters, wipe with
          | true, true => .scan 2
          | true, false | false, true => .scan 1
          | false, false => .selfTest) ∧
        u.writer = (match counters, wipe with
          | true, true => ⟨some ⟨.counters u.copies.counters, [.sequence]⟩, [⟨.wipe u.copies.wipe, [.sequence]⟩]⟩
          | true, false => ⟨some ⟨.counters u.copies.counters, [.sequence]⟩, []⟩
          | false, true => ⟨some ⟨.wipe u.copies.wipe, [.sequence]⟩, []⟩
          | false, false => ⟨none, []⟩))) ∧
    (s.power ≠ .off → exec (.powerGood level) s = .next s))

/-- The end of the power-up sequence's self-test. A failed one enters FAULT with cause SELF_TEST, whatever the scan found. A
passed one goes to FAULT with cause STORE on a store fault; else to WIPING when a wipe is recorded, which in phase PURGE rewrites
the layout first and in phase SANITIZE sends its first four steps from the cursor; else to BLANK, with slot 0 loaded from the
device wrap, or to FAULT with cause STORE when that wrap does not check; else the raised absence count is being written. In FAULT
and BLANK the back-off starts again for a count above the free tries (R64, R79, R103, R107, R118, R140, R159, R166, R167, R168).
What a defective unit gives in place of either sector of the test is an operand of the command (DEDUCED, log entry 21). -/
def Obligations.PowerUpDecides : Prop :=
  ∀ (s : State) (dx dy : Option Sector) (x y : Sector) (b : Option Nat),
    x = dx.getD (encipher s.vector.key s.vector.tweak s.vector.plain) →
    y = dy.getD (decipher s.vector.key s.vector.tweak x) → s.Quiet → s.power = .selfTest → s.access = .starting → s.latched = false →
    s.writer = ⟨none, []⟩ → s.latch = false → s.engine.sanitize = none → s.outstanding = [] →
    b = (if s.copies.policy.freeTries < s.copies.counters.attempts
      then some (2 ^ min (s.copies.counters.attempts - s.copies.policy.freeTries - 1) 10) else s.backoff) →
    (x ≠ s.vector.expected ∨ y ≠ s.vector.plain →
      exec (.selfTestEnd dx dy) s = .next { s with
        power := .running, access := .fault, faultCause := some .selfTest,
        view := some View.empty, pendingView := none, backoff := b }) ∧
    (x = s.vector.expected → y = s.vector.plain →
      (s.scan.storeFault = true →
        exec (.selfTestEnd dx dy) s = .next { s with
          power := .running, access := .fault, faultCause := some .store,
          view := some View.empty, pendingView := none, backoff := b }) ∧
      (s.scan.storeFault = false →
        (∀ j, s.copies.wipe.phase = .purge → s.engine.job = some j → j.keepOwner = s.keepOwner →
          exec (.selfTestEnd dx dy) s = .next { s with
            power := .running, access := .wiping, view := some View.empty,
            pendingView := none,
            engine := ⟨some { j with stage := .layoutWrite }, none⟩,
            writer := ⟨some ⟨.layout (j.layout s.copies.layout), [.engine]⟩, []⟩ }) ∧
        (∀ j c, s.copies.wipe.phase = .sanitize → s.copies.wipe.cursor = some c → s.engine.job = some j →
          ¬ (j.keepOwner = true ∧ j.depth = .media) → c + 4096 ≤ s.capacity →
          exec (.selfTestEnd dx dy) s = .next { s with
            power := .running, access := .wiping, view := some View.empty,
            pendingView := none,
            engine := ⟨some { j with stage := .sanitizing }, some ⟨c + 4096,
              [⟨c, 1024, 64, .issued, false⟩, ⟨c + 1024, 1024, 65, .issued, false⟩,
                ⟨c + 2048, 1024, 66, .issued, false⟩, ⟨c + 3072, 1024, 67, .issued, false⟩], c⟩⟩,
            outstanding := [64, 65, 66, 67],
            downstream := s.downstream ++ [.command .deallocate 64 c 1024, .command .deallocate 65 (c + 1024) 1024,
              .command .deallocate 66 (c + 2048) 1024, .command .deallocate 67 (c + 3072) 1024] }) ∧
        (∀ c w, s.copies.wipe.phase = .none → s.copies.credentials[(0 : SlotIndex)].record = some c → c.kind = .blank →
          c.wraps = [w] →
          (∀ key, unwrapKey s.store.identity.deviceKey w = some key →
            exec (.selfTestEnd dx dy) s = .next { s with
              power := .running, access := .blank,
              view := some (View.full s.capacity), pendingView := none, backoff := b,
              slots := s.slots.set 0 ⟨.loaded, some key, some s.copies.layout[(0 : RangeIndex)].generation, 0⟩,
              locks := s.locks.set 0 ⟨false, false⟩ }) ∧
          (unwrapKey s.store.identity.deviceKey w = none →
            exec (.selfTestEnd dx dy) s = .next { s.markCorrupt 0 with
              power := .running, access := .fault,
              faultCause := some .store, view := some View.empty, pendingView := none, backoff := b })) ∧
        (s.copies.wipe.phase = .none → s.provisioning ≠ .blank →
          exec (.selfTestEnd dx dy) s = .next { s with
            power := .absence,
            writer := ⟨some ⟨.counters ⟨s.copies.counters.attempts, min 255 (s.copies.counters.absences + 1)⟩,
              [.sequence]⟩, []⟩ })))

/-- The absence step's write completes: a count above an absence limit that is on begins a wipe with reason ABSENCE; otherwise the
part is LOCKED with its view and takes capsules, the back-off started again for a count above the free tries. An enclosure opening
latched before is then applied: under policy WIPE it begins a wipe with reason ENCLOSURE, and otherwise it ends the latch alone
(R102, R118, R144, R167, R168). -/
def Obligations.AbsenceStepDecides : Prop :=
  ∀ (s : State) (n : Counters) (b : Option Nat) (u : State), s.Quiet → s.power = .absence → s.access = .starting →
    s.writer = ⟨some ⟨.counters n, [.sequence]⟩, []⟩ → s.engine.job = none → s.noneForwarded = true → s.latch = false →
    s.provisioning ≠ .blank →
    b = (if s.copies.policy.freeTries < n.attempts
      then some (2 ^ min (n.attempts - s.copies.policy.freeTries - 1) 10) else s.backoff) →
    u = { s.withCounters n with power := .running, writer := ⟨none, []⟩, latched := false } →
    (s.copies.policy.absenceLimit ≠ 0 ∧ s.copies.policy.absenceLimit < n.absences →
      exec .storeWriteCompletion s = .next (u.wipeBegun .absence s.copies.policy.depth s.keepOwner)) ∧
    (¬ (s.copies.policy.absenceLimit ≠ 0 ∧ s.copies.policy.absenceLimit < n.absences) →
      (s.latched = false ∨ s.copies.policy.enclosure ≠ .wipe →
        exec .storeWriteCompletion s = .next { u.inLocked with backoff := b }) ∧
      (s.latched = true → s.copies.policy.enclosure = .wipe →
        exec .storeWriteCompletion s = .next (u.inLocked.wipeBegun .enclosure s.copies.policy.depth s.keepOwner)))

/-! ## The enclosure, the purge and the back-off timer (chapters 6 and 8) -/

/-- An enclosure opening sets the level and the notice ENCLOSURE_OPENED, and is applied at once: in BLANK and under IGNORE it does
no more; under LOCK it ends a session of OPEN or STAGED, or of DORMANT with one of them as resume state, as END SESSION does, and
does no more elsewhere; under WIPE it begins a wipe with reason ENCLOSURE, unless one is in progress; in DORMANT the part stays
DORMANT, its resume state LOCKED or WIPING. Before the last step of the power-up sequence it is only latched. With the line OPEN
already nothing happens, and a closing changes the level alone (R76, R144, R145, R161). That an opening of an open line does
nothing is the model's (DESIGN CHOICE, log entry 8). -/
def Obligations.EnclosureActs : Prop :=
  ∀ (s u : State), u = { s with level := .opened, latched := false, notices := { s.notices with enclosureOpened := true } } →
    (s.Calm → s.level = .closed →
      (s.provisioning = .blank ∨ s.copies.policy.enclosure = .ignore ∨
          (s.copies.policy.enclosure = .lock ∧ (s.access = .locked ∨ s.access = .wiping ∨ s.access = .fault ∨
            (s.access = .dormant ∧ s.resume ≠ some .opened ∧ s.resume ≠ some .staged))) ∨
          (s.copies.policy.enclosure = .wipe ∧ s.engine.job.isSome = true) →
        exec .enclosureOpening s = .next u) ∧
      (s.provisioning ≠ .blank → s.copies.policy.enclosure = .lock → s.access = .opened ∨ s.access = .staged →
        ((∀ r : RangeIndex, s.allLocked.slots[r].state = .empty) → s.latch = false →
          exec .enclosureOpening s = .next u.allLocked.inLocked) ∧
        ((∃ r : RangeIndex, s.allLocked.slots[r].state ≠ .empty) →
          exec .enclosureOpening s = .next { u.allLocked with pendingView := none, sessionEnd := true })) ∧
      (s.provisioning ≠ .blank → s.copies.policy.enclosure = .lock → s.access = .dormant →
        s.resume = some .opened ∨ s.resume = some .staged → (∀ r : RangeIndex, s.allLocked.slots[r].state = .empty) →
        exec .enclosureOpening s = .next u.allLocked.inLocked) ∧
      (s.provisioning ≠ .blank → s.copies.policy.enclosure = .wipe → s.engine.job = none → s.noneForwarded = true →
        s.writer = ⟨none, []⟩ → s.InService ∨ s.access = .dormant →
        exec .enclosureOpening s = .next (u.wipeBegun .enclosure s.copies.policy.depth s.keepOwner))) ∧
    (s.Quiet → s.power ≠ .off → s.power ≠ .running → s.level = .closed →
      exec .enclosureOpening s = .next { u with latched := true }) ∧
    (s.Calm → (s.level = .opened → exec .enclosureOpening s = .next s) ∧
      exec .enclosureClosing s = .next { s with level := .closed })

/-- A purge that finds traffic or a request in service, here by an enclosure opening under policy WIPE: every FORWARDED entry with a
segment still to finish becomes ABORTING, its segments' results kept; no other entry moves but that of a request answered; no
sub-tag is taken from the outstanding set, no sector stays held, every slot is EMPTY with no use, every range both-locked, no session
end pending and the access state WIPING. A held LOCK, END SESSION, ERASE RANGE or SELF TEST is answered WIPED at the purge, its
entry FREE, and writes and tests nothing; a request that awaits a record write stays in service, sends nothing, and is answered
WIPED at that write's completion, the record holding the write's content (R39, R52, R68, R72, R75, R105, R124, R139, R146, R164).
That held sectors are dropped is deduced (DEDUCED, log entry 18). -/
def Obligations.PurgeAbortsTraffic : Prop :=
  (∀ (s : State), s.power = .running → s.queue = [] → s.lane = [] → s.dataLane = [] → s.heldPowerEnter = false →
    s.level = .closed → s.provisioning ≠ .blank → s.copies.policy.enclosure = .wipe → s.engine.job = none → s.InService →
    (∀ t : Tag, s.table[t].state = .forwarded → ∃ g ∈ s.table[t].segments, g.status = none ∧ g.arrived = none) →
    ∀ (service : Option Service) (up : List UpMessage) (answered : Option Tag),
    (s.service = none ∧ service = none ∧ up = [] ∧ answered = none) ∨
      (∃ v, s.service = some v ∧ v.discard = false ∧ service = none ∧ answered = some v.tag ∧
        up = [controlCompletion v.tag .wiped v.code .noFields] ∧
        ((∃ rs, v.stage = .holdLock rs) ∨ v.stage = .holdEndSession ∨ (∃ r, v.stage = .holdErase r) ∨ v.stage = .holdTest)) ∨
      (∃ v, s.service = some v ∧ v.stage.awaitsWrite = true ∧ service = some { v with struck := true } ∧ up = [] ∧
        answered = none) →
    ∃ u, exec .enclosureOpening s = .next u ∧
      (∀ t : Tag, u.table[t] = if answered = some t then Entry.free
        else if s.table[t].state = .forwarded
        then { s.table[t] with
          state := .aborting
          segments := s.table[t].segments.map fun g => { g with status := g.status <|> g.arrived, unpassed := 0 } }
        else s.table[t]) ∧
      u.service = service ∧ u.outbound = s.outbound ++ up ∧ u.downstream = s.downstream ∧ u.outstanding = s.outstanding ∧
      u.readHeld = [] ∧ u.writeHeld = [] ∧
      u.slots = Vector.replicate 16 KeySlot.empty ∧ u.locks = Vector.replicate 16 Locks.both ∧ u.access = .wiping ∧
      u.view = some View.empty ∧ u.pendingView = none ∧ u.sessionEnd = false ∧ u.backoff = none ∧
      u.notices.wipeStarted = true ∧
      (s.writer = ⟨none, []⟩ → u.writer = ⟨some ⟨.wipe ⟨.purge, some .enclosure, some s.copies.policy.depth, some s.keepOwner,
        none, none⟩, [.engine]⟩, []⟩)) ∧
  ∀ (s u : State) (v : Service) (c : Content) (q : List RecordWrite), s.power = .running → s.service = some v →
    v.struck = true → v.discard = false → v.stage.awaitsWrite = true → s.queue = [] → s.lane = [] → s.dataLane = [] →
    s.sessionEnd = false → s.heldPowerEnter = false → s.access = .wiping → s.writer = ⟨some ⟨c, [.channel]⟩, q⟩ →
    ((∃ i d, c = .credential i d ∧ u = s.withCredential i d) ∨ (∃ l, c = .layout l ∧ u = s.withLayout l) ∨
      (∃ p, c = .policy p ∧ u = s.withPolicy p) ∨ (∃ n, c = .counters n ∧ u = s.withCounters n)) →
    exec .storeWriteCompletion s = .next { u.answered v.tag .wiped v.code .noFields with
      service := none, writer := ⟨q.head?, q.tail⟩ }

/-- The back-off timer's expiry stops it and sets BACKOFF_ENDED; a stopped timer does not expire. The step of an empty queue,
which is the model's second of the part's time (DESIGN CHOICE, log entry 3), takes one from a running timer, expires it at the end
of its last second, and changes nothing else; with the timer stopped, or without power, it changes nothing. What it hands out for an
UNLOCK that has yet to answer is stated in UnlockOpensTheSession (R103). That the expiry
of a stopped timer does nothing is the model's (DESIGN CHOICE, log entry 8). -/
def Obligations.BackoffRunsOut : Prop :=
  ∀ (s : State),
    (s.Calm → (s.backoff ≠ none → exec .backoffExpiry s = .next
        { s with backoff := none, notices := { s.notices with backoffEnded := true } }) ∧
      (s.backoff = none → exec .backoffExpiry s = .next s)) ∧
    (s.pending = [] → s.owesAnswer = false →
      (∀ n, s.power ≠ .off → s.backoff = some (n + 2) → step s = .next { s with backoff := some (n + 1) }) ∧
      (s.power ≠ .off → s.backoff = some 1 →
        step s = .next { s with backoff := none, notices := { s.notices with backoffEnded := true } }) ∧
      (s.power = .off ∨ s.backoff = none → step s = .next s))

/-! ## Laws that every step keeps -/

/-- From every state, reached or not, a step keeps: the outstanding set in strictly ascending order; at most four waiting
requests; both counts in 0..255, in the working copy and in every write requested; at most one queued write for each record, and
none behind an idle writer; and no follow-up of an event left to be made. The identity record and the known-answer vector never
change (R40, R49, R79, R85, R87, R88, R120). -/
def Obligations.StepKeepsItsLaws : Prop :=
  ∀ (s u : State), step s = .next u →
    (s.OutstandingSorted → u.OutstandingSorted) ∧ (s.QueueBounded → u.QueueBounded) ∧
      (s.CountsBounded → u.CountsBounded) ∧ (s.WriterLaw → u.WriterLaw) ∧ (s.Settled → u.Settled) ∧
      u.store.identity = s.store.identity ∧ u.vector = s.vector

/-- From every state in which it holds, a step keeps the law of the key slots: outside a session, which is BLANK, STAGED or OPEN, or
DORMANT with one of them as resume state, no slot holds a key; with the laws of DORMANT, of the power-up sequence and of a wipe in
progress that it rests on (R62, R68, R105, R124, R141, R160, R166, R171). -/
def Obligations.StepKeepsKeyLaw : Prop :=
  ∀ (s u : State), s.KeyLaw → s.WriterLaw → step s = .next u → u.KeyLaw

/-- The part after reset is a manufactured drive without power, with thirteen records as R78 gives them, and every law above holds
of it. Its media capacity, device key, global key and known-answer vector are the model's choice (DESIGN CHOICE, log entry 1), and
so are the clear flags, the empty lock-on sets and the absent extents of its undefined ranges (DESIGN CHOICE, log entry 39) (R78,
R165). -/
def Obligations.ResetIsAsManufactured : Prop :=
  State.reset.power = .off ∧ State.reset.pending = [] ∧
    State.reset.store.layout = .intact ((Vector.replicate 16 RangeEntry.undefined).set 0 RangeEntry.global) ∧
    State.reset.store.policy = .intact ⟨false, 5, 0, 0, .ignore, .none, none, .keys⟩ ∧
    State.reset.store.counters = .intact ⟨0, 0⟩ ∧
    State.reset.store.wipe = .intact ⟨.none, none, none, none, none, none⟩ ∧
    (∀ i : SlotIndex, i ≠ 0 → State.reset.store.credentials[i] = .intact Credential.empty) ∧
    (∃ w, State.reset.store.credentials[(0 : SlotIndex)] = .intact (.blank w) ∧ w.range = 0 ∧ w.generation = 0) ∧
    State.reset.OutstandingSorted ∧ State.reset.QueueBounded ∧ State.reset.CountsBounded ∧ State.reset.WriterLaw ∧
    State.reset.Settled ∧ State.reset.KeyLaw
end

