-- ==== Sys2Proof/Laws/Bytes.lean ====
section
/-! SUPPORT. Laws/Bytes.lean: numbers and fields in bytes read back as they were written (section 3.10, R60). -/

namespace Sys2Proof

/-- The bytes of a number are as many as asked. -/
theorem length_leBytes (n v : Nat) : (leBytes n v).length = n := by
  induction n generalizing v with
  | zero => rfl
  | succ n ih => simp [leBytes, ih]

/-- A number reads back from its bytes, but for what they cannot hold. -/
theorem leNat_leBytes (n v : Nat) : leNat (leBytes n v) = v % 256 ^ n := by
  induction n generalizing v with
  | zero => simp [leBytes, leNat, Nat.mod_one]
  | succ n ih =>
    simp only [leBytes, leNat, ih, BitVec.toNat_ofNat]
    have : (256:Nat) ^ (n+1) = 256 * 256 ^ n := by rw [Nat.pow_succ, Nat.mul_comm]
    rw [this, Nat.mod_mul]

/-- A field stands where its bytes were put. -/
theorem fieldAt_append (p m q : List Byte) (o w : Nat) (hp : p.length = o) (hm : m.length = w) : fieldAt (p ++ m ++ q) o w = leNat m := by
  unfold fieldAt
  subst hp hm
  simp [List.append_assoc]

/-- A byte stands where it was put. -/
theorem byteAt_append (p q : List Byte) (b : Byte) (o : Nat) (hp : p.length = o) : byteAt (p ++ b :: q) o = b := by
  unfold byteAt; subst hp; simp [List.getD]

/-- 32 bytes hold a secret. -/
theorem secret_leBytes (s : BitVec 256) : BitVec.ofNat 256 (leNat (leBytes 32 s.toNat)) = s := by
  rw [leNat_leBytes]; apply BitVec.eq_of_toNat_eq; have := s.isLt; rw [BitVec.toNat_ofNat]; omega

/-- 64 bytes hold a token. -/
theorem token_leBytes (s : BitVec 512) : BitVec.ofNat 512 (leNat (leBytes 64 s.toNat)) = s := by
  have h : (256:Nat) ^ 64 = 2 ^ 512 := by rw [show (256:Nat) = 2^8 by rfl, ← Nat.pow_mul]
  rw [leNat_leBytes, h]; apply BitVec.eq_of_toNat_eq; have := s.isLt; rw [BitVec.toNat_ofNat]; rw [Nat.mod_eq_of_lt this, Nat.mod_eq_of_lt this]

/-- Six bytes hold an LBA. -/
theorem lba_leBytes (s : BitVec 48) : BitVec.ofNat 48 (leNat (leBytes 6 s.toNat)) = s := by
  rw [leNat_leBytes]; apply BitVec.eq_of_toNat_eq; have := s.isLt; rw [BitVec.toNat_ofNat]; omega

/-- The entries of SET LOCKS read back. -/
theorem lockEntries_bytes (es : List LockEntry) (q : List Byte) : lockEntries es.length (es.flatMap LockEntry.bytes ++ q) = es := by
  induction es with
  | nil => rfl
  | cons e es ih =>
    simp only [List.length_cons, lockEntries, List.flatMap_cons, LockEntry.bytes, byteAt]
    simp [ih]

theorem length_lockEntry_bytes (es : List LockEntry) : (es.flatMap LockEntry.bytes).length = 3 * es.length := by
  induction es with
  | nil => rfl
  | cons e es ih => simp only [List.flatMap_cons, List.length_append, ih, LockEntry.bytes, List.length_cons, List.length_nil]; omega

theorem toNat_ofNat_byte (n : Nat) (h : n ≤ 255) : (BitVec.ofNat 8 n).toNat = n := by simp; omega

theorem fieldAt_zero (m q : List Byte) (w : Nat) (hm : m.length = w) : fieldAt (m ++ q) 0 w = leNat m := fieldAt_append [] m q 0 w rfl hm

end Sys2Proof
end

