-- ==== Sys2Proof/Laws/State.lean ====
section
/-! SUPPORT. Laws/State.lean: what each plain update of the state does to each field. -/

namespace Sys2Proof.Machine

/-! ### sendUp -/

@[simp] theorem State.sendUp_pending (s : State) (m : UpMessage) : (s.sendUp m).pending = s.pending := rfl
@[simp] theorem State.sendUp_power (s : State) (m : UpMessage) : (s.sendUp m).power = s.power := rfl
@[simp] theorem State.sendUp_access (s : State) (m : UpMessage) : (s.sendUp m).access = s.access := rfl
@[simp] theorem State.sendUp_resume (s : State) (m : UpMessage) : (s.sendUp m).resume = s.resume := rfl
@[simp] theorem State.sendUp_faultCause (s : State) (m : UpMessage) : (s.sendUp m).faultCause = s.faultCause := rfl
@[simp] theorem State.sendUp_store (s : State) (m : UpMessage) : (s.sendUp m).store = s.store := rfl
@[simp] theorem State.sendUp_copies (s : State) (m : UpMessage) : (s.sendUp m).copies = s.copies := rfl
@[simp] theorem State.sendUp_scan (s : State) (m : UpMessage) : (s.sendUp m).scan = s.scan := rfl
@[simp] theorem State.sendUp_writer (s : State) (m : UpMessage) : (s.sendUp m).writer = s.writer := rfl
@[simp] theorem State.sendUp_view (s : State) (m : UpMessage) : (s.sendUp m).view = s.view := rfl
@[simp] theorem State.sendUp_pendingView (s : State) (m : UpMessage) : (s.sendUp m).pendingView = s.pendingView := rfl
@[simp] theorem State.sendUp_latch (s : State) (m : UpMessage) : (s.sendUp m).latch = s.latch := rfl
@[simp] theorem State.sendUp_slots (s : State) (m : UpMessage) : (s.sendUp m).slots = s.slots := rfl
@[simp] theorem State.sendUp_locks (s : State) (m : UpMessage) : (s.sendUp m).locks = s.locks := rfl
@[simp] theorem State.sendUp_sessionEnd (s : State) (m : UpMessage) : (s.sendUp m).sessionEnd = s.sessionEnd := rfl
@[simp] theorem State.sendUp_table (s : State) (m : UpMessage) : (s.sendUp m).table = s.table := rfl
@[simp] theorem State.sendUp_outstanding (s : State) (m : UpMessage) : (s.sendUp m).outstanding = s.outstanding := rfl
@[simp] theorem State.sendUp_lane (s : State) (m : UpMessage) : (s.sendUp m).lane = s.lane := rfl
@[simp] theorem State.sendUp_dataLane (s : State) (m : UpMessage) : (s.sendUp m).dataLane = s.dataLane := rfl
@[simp] theorem State.sendUp_readHeld (s : State) (m : UpMessage) : (s.sendUp m).readHeld = s.readHeld := rfl
@[simp] theorem State.sendUp_writeHeld (s : State) (m : UpMessage) : (s.sendUp m).writeHeld = s.writeHeld := rfl
@[simp] theorem State.sendUp_outbound (s : State) (m : UpMessage) : (s.sendUp m).outbound = s.outbound ++ [m] := rfl
@[simp] theorem State.sendUp_downstream (s : State) (m : UpMessage) : (s.sendUp m).downstream = s.downstream := rfl
@[simp] theorem State.sendUp_service (s : State) (m : UpMessage) : (s.sendUp m).service = s.service := rfl
@[simp] theorem State.sendUp_queue (s : State) (m : UpMessage) : (s.sendUp m).queue = s.queue := rfl
@[simp] theorem State.sendUp_notices (s : State) (m : UpMessage) : (s.sendUp m).notices = s.notices := rfl
@[simp] theorem State.sendUp_attention (s : State) (m : UpMessage) : (s.sendUp m).attention = s.attention := rfl
@[simp] theorem State.sendUp_backoff (s : State) (m : UpMessage) : (s.sendUp m).backoff = s.backoff := rfl
@[simp] theorem State.sendUp_platform (s : State) (m : UpMessage) : (s.sendUp m).platform = s.platform := rfl
@[simp] theorem State.sendUp_presented (s : State) (m : UpMessage) : (s.sendUp m).presented = s.presented := rfl
@[simp] theorem State.sendUp_heldPowerEnter (s : State) (m : UpMessage) :
    (s.sendUp m).heldPowerEnter = s.heldPowerEnter := rfl
@[simp] theorem State.sendUp_engine (s : State) (m : UpMessage) : (s.sendUp m).engine = s.engine := rfl
@[simp] theorem State.sendUp_level (s : State) (m : UpMessage) : (s.sendUp m).level = s.level := rfl
@[simp] theorem State.sendUp_latched (s : State) (m : UpMessage) : (s.sendUp m).latched = s.latched := rfl
@[simp] theorem State.sendUp_vector (s : State) (m : UpMessage) : (s.sendUp m).vector = s.vector := rfl
@[simp] theorem State.sendUp_draws (s : State) (m : UpMessage) : (s.sendUp m).draws = s.draws := rfl

/-! ### sendDown -/

@[simp] theorem State.sendDown_pending (s : State) (m : DownMessage) : (s.sendDown m).pending = s.pending := rfl
@[simp] theorem State.sendDown_power (s : State) (m : DownMessage) : (s.sendDown m).power = s.power := rfl
@[simp] theorem State.sendDown_access (s : State) (m : DownMessage) : (s.sendDown m).access = s.access := rfl
@[simp] theorem State.sendDown_resume (s : State) (m : DownMessage) : (s.sendDown m).resume = s.resume := rfl
@[simp] theorem State.sendDown_faultCause (s : State) (m : DownMessage) :
    (s.sendDown m).faultCause = s.faultCause := rfl
@[simp] theorem State.sendDown_store (s : State) (m : DownMessage) : (s.sendDown m).store = s.store := rfl
@[simp] theorem State.sendDown_copies (s : State) (m : DownMessage) : (s.sendDown m).copies = s.copies := rfl
@[simp] theorem State.sendDown_scan (s : State) (m : DownMessage) : (s.sendDown m).scan = s.scan := rfl
@[simp] theorem State.sendDown_writer (s : State) (m : DownMessage) : (s.sendDown m).writer = s.writer := rfl
@[simp] theorem State.sendDown_view (s : State) (m : DownMessage) : (s.sendDown m).view = s.view := rfl
@[simp] theorem State.sendDown_pendingView (s : State) (m : DownMessage) :
    (s.sendDown m).pendingView = s.pendingView := rfl
@[simp] theorem State.sendDown_latch (s : State) (m : DownMessage) : (s.sendDown m).latch = s.latch := rfl
@[simp] theorem State.sendDown_slots (s : State) (m : DownMessage) : (s.sendDown m).slots = s.slots := rfl
@[simp] theorem State.sendDown_locks (s : State) (m : DownMessage) : (s.sendDown m).locks = s.locks := rfl
@[simp] theorem State.sendDown_sessionEnd (s : State) (m : DownMessage) :
    (s.sendDown m).sessionEnd = s.sessionEnd := rfl
@[simp] theorem State.sendDown_table (s : State) (m : DownMessage) : (s.sendDown m).table = s.table := rfl
@[simp] theorem State.sendDown_outstanding (s : State) (m : DownMessage) :
    (s.sendDown m).outstanding = s.outstanding := rfl
@[simp] theorem State.sendDown_lane (s : State) (m : DownMessage) : (s.sendDown m).lane = s.lane := rfl
@[simp] theorem State.sendDown_dataLane (s : State) (m : DownMessage) : (s.sendDown m).dataLane = s.dataLane := rfl
@[simp] theorem State.sendDown_readHeld (s : State) (m : DownMessage) : (s.sendDown m).readHeld = s.readHeld := rfl
@[simp] theorem State.sendDown_writeHeld (s : State) (m : DownMessage) : (s.sendDown m).writeHeld = s.writeHeld := rfl
@[simp] theorem State.sendDown_outbound (s : State) (m : DownMessage) : (s.sendDown m).outbound = s.outbound := rfl
@[simp] theorem State.sendDown_downstream (s : State) (m : DownMessage) :
    (s.sendDown m).downstream = s.downstream ++ [m] := rfl
@[simp] theorem State.sendDown_service (s : State) (m : DownMessage) : (s.sendDown m).service = s.service := rfl
@[simp] theorem State.sendDown_queue (s : State) (m : DownMessage) : (s.sendDown m).queue = s.queue := rfl
@[simp] theorem State.sendDown_notices (s : State) (m : DownMessage) : (s.sendDown m).notices = s.notices := rfl
@[simp] theorem State.sendDown_attention (s : State) (m : DownMessage) : (s.sendDown m).attention = s.attention := rfl
@[simp] theorem State.sendDown_backoff (s : State) (m : DownMessage) : (s.sendDown m).backoff = s.backoff := rfl
@[simp] theorem State.sendDown_platform (s : State) (m : DownMessage) : (s.sendDown m).platform = s.platform := rfl
@[simp] theorem State.sendDown_presented (s : State) (m : DownMessage) : (s.sendDown m).presented = s.presented := rfl
@[simp] theorem State.sendDown_heldPowerEnter (s : State) (m : DownMessage) :
    (s.sendDown m).heldPowerEnter = s.heldPowerEnter := rfl
@[simp] theorem State.sendDown_engine (s : State) (m : DownMessage) : (s.sendDown m).engine = s.engine := rfl
@[simp] theorem State.sendDown_level (s : State) (m : DownMessage) : (s.sendDown m).level = s.level := rfl
@[simp] theorem State.sendDown_latched (s : State) (m : DownMessage) : (s.sendDown m).latched = s.latched := rfl
@[simp] theorem State.sendDown_vector (s : State) (m : DownMessage) : (s.sendDown m).vector = s.vector := rfl
@[simp] theorem State.sendDown_draws (s : State) (m : DownMessage) : (s.sendDown m).draws = s.draws := rfl

/-! ### refuse -/

@[simp] theorem State.refuse_pending (s : State) (k t : Byte) (st : Status) :
    (s.refuse k t st).pending = s.pending := rfl
@[simp] theorem State.refuse_power (s : State) (k t : Byte) (st : Status) : (s.refuse k t st).power = s.power := rfl
@[simp] theorem State.refuse_access (s : State) (k t : Byte) (st : Status) : (s.refuse k t st).access = s.access := rfl
@[simp] theorem State.refuse_resume (s : State) (k t : Byte) (st : Status) : (s.refuse k t st).resume = s.resume := rfl
@[simp] theorem State.refuse_faultCause (s : State) (k t : Byte) (st : Status) :
    (s.refuse k t st).faultCause = s.faultCause := rfl
@[simp] theorem State.refuse_store (s : State) (k t : Byte) (st : Status) : (s.refuse k t st).store = s.store := rfl
@[simp] theorem State.refuse_copies (s : State) (k t : Byte) (st : Status) : (s.refuse k t st).copies = s.copies := rfl
@[simp] theorem State.refuse_scan (s : State) (k t : Byte) (st : Status) : (s.refuse k t st).scan = s.scan := rfl
@[simp] theorem State.refuse_writer (s : State) (k t : Byte) (st : Status) : (s.refuse k t st).writer = s.writer := rfl
@[simp] theorem State.refuse_view (s : State) (k t : Byte) (st : Status) : (s.refuse k t st).view = s.view := rfl
@[simp] theorem State.refuse_pendingView (s : State) (k t : Byte) (st : Status) :
    (s.refuse k t st).pendingView = s.pendingView := rfl
@[simp] theorem State.refuse_latch (s : State) (k t : Byte) (st : Status) : (s.refuse k t st).latch = s.latch := rfl
@[simp] theorem State.refuse_slots (s : State) (k t : Byte) (st : Status) : (s.refuse k t st).slots = s.slots := rfl
@[simp] theorem State.refuse_locks (s : State) (k t : Byte) (st : Status) : (s.refuse k t st).locks = s.locks := rfl
@[simp] theorem State.refuse_sessionEnd (s : State) (k t : Byte) (st : Status) :
    (s.refuse k t st).sessionEnd = s.sessionEnd := rfl
@[simp] theorem State.refuse_table (s : State) (k t : Byte) (st : Status) : (s.refuse k t st).table = s.table := rfl
@[simp] theorem State.refuse_outstanding (s : State) (k t : Byte) (st : Status) :
    (s.refuse k t st).outstanding = s.outstanding := rfl
@[simp] theorem State.refuse_lane (s : State) (k t : Byte) (st : Status) : (s.refuse k t st).lane = s.lane := rfl
@[simp] theorem State.refuse_dataLane (s : State) (k t : Byte) (st : Status) :
    (s.refuse k t st).dataLane = s.dataLane := rfl
@[simp] theorem State.refuse_readHeld (s : State) (k t : Byte) (st : Status) :
    (s.refuse k t st).readHeld = s.readHeld := rfl
@[simp] theorem State.refuse_writeHeld (s : State) (k t : Byte) (st : Status) :
    (s.refuse k t st).writeHeld = s.writeHeld := rfl
@[simp] theorem State.refuse_outbound (s : State) (k t : Byte) (st : Status) :
    (s.refuse k t st).outbound = s.outbound ++ [.completion k t st 0 none none] := rfl
@[simp] theorem State.refuse_downstream (s : State) (k t : Byte) (st : Status) :
    (s.refuse k t st).downstream = s.downstream := rfl
@[simp] theorem State.refuse_service (s : State) (k t : Byte) (st : Status) :
    (s.refuse k t st).service = s.service := rfl
@[simp] theorem State.refuse_queue (s : State) (k t : Byte) (st : Status) : (s.refuse k t st).queue = s.queue := rfl
@[simp] theorem State.refuse_notices (s : State) (k t : Byte) (st : Status) :
    (s.refuse k t st).notices = s.notices := rfl
@[simp] theorem State.refuse_attention (s : State) (k t : Byte) (st : Status) :
    (s.refuse k t st).attention = s.attention := rfl
@[simp] theorem State.refuse_backoff (s : State) (k t : Byte) (st : Status) :
    (s.refuse k t st).backoff = s.backoff := rfl
@[simp] theorem State.refuse_platform (s : State) (k t : Byte) (st : Status) :
    (s.refuse k t st).platform = s.platform := rfl
@[simp] theorem State.refuse_presented (s : State) (k t : Byte) (st : Status) :
    (s.refuse k t st).presented = s.presented := rfl
@[simp] theorem State.refuse_heldPowerEnter (s : State) (k t : Byte) (st : Status) :
    (s.refuse k t st).heldPowerEnter = s.heldPowerEnter := rfl
@[simp] theorem State.refuse_engine (s : State) (k t : Byte) (st : Status) : (s.refuse k t st).engine = s.engine := rfl
@[simp] theorem State.refuse_level (s : State) (k t : Byte) (st : Status) : (s.refuse k t st).level = s.level := rfl
@[simp] theorem State.refuse_latched (s : State) (k t : Byte) (st : Status) :
    (s.refuse k t st).latched = s.latched := rfl
@[simp] theorem State.refuse_vector (s : State) (k t : Byte) (st : Status) : (s.refuse k t st).vector = s.vector := rfl
@[simp] theorem State.refuse_draws (s : State) (k t : Byte) (st : Status) : (s.refuse k t st).draws = s.draws := rfl

/-! ### setEntry -/

@[simp] theorem State.setEntry_pending (s : State) (t : Tag) (e : Entry) : (s.setEntry t e).pending = s.pending := rfl
@[simp] theorem State.setEntry_power (s : State) (t : Tag) (e : Entry) : (s.setEntry t e).power = s.power := rfl
@[simp] theorem State.setEntry_access (s : State) (t : Tag) (e : Entry) : (s.setEntry t e).access = s.access := rfl
@[simp] theorem State.setEntry_resume (s : State) (t : Tag) (e : Entry) : (s.setEntry t e).resume = s.resume := rfl
@[simp] theorem State.setEntry_faultCause (s : State) (t : Tag) (e : Entry) :
    (s.setEntry t e).faultCause = s.faultCause := rfl
@[simp] theorem State.setEntry_store (s : State) (t : Tag) (e : Entry) : (s.setEntry t e).store = s.store := rfl
@[simp] theorem State.setEntry_copies (s : State) (t : Tag) (e : Entry) : (s.setEntry t e).copies = s.copies := rfl
@[simp] theorem State.setEntry_scan (s : State) (t : Tag) (e : Entry) : (s.setEntry t e).scan = s.scan := rfl
@[simp] theorem State.setEntry_writer (s : State) (t : Tag) (e : Entry) : (s.setEntry t e).writer = s.writer := rfl
@[simp] theorem State.setEntry_view (s : State) (t : Tag) (e : Entry) : (s.setEntry t e).view = s.view := rfl
@[simp] theorem State.setEntry_pendingView (s : State) (t : Tag) (e : Entry) :
    (s.setEntry t e).pendingView = s.pendingView := rfl
@[simp] theorem State.setEntry_latch (s : State) (t : Tag) (e : Entry) : (s.setEntry t e).latch = s.latch := rfl
@[simp] theorem State.setEntry_slots (s : State) (t : Tag) (e : Entry) : (s.setEntry t e).slots = s.slots := rfl
@[simp] theorem State.setEntry_locks (s : State) (t : Tag) (e : Entry) : (s.setEntry t e).locks = s.locks := rfl
@[simp] theorem State.setEntry_sessionEnd (s : State) (t : Tag) (e : Entry) :
    (s.setEntry t e).sessionEnd = s.sessionEnd := rfl
@[simp] theorem State.setEntry_table (s : State) (t : Tag) (e : Entry) : (s.setEntry t e).table = s.table.set t e := rfl
@[simp] theorem State.setEntry_outstanding (s : State) (t : Tag) (e : Entry) :
    (s.setEntry t e).outstanding = s.outstanding := rfl
@[simp] theorem State.setEntry_lane (s : State) (t : Tag) (e : Entry) : (s.setEntry t e).lane = s.lane := rfl
@[simp] theorem State.setEntry_dataLane (s : State) (t : Tag) (e : Entry) :
    (s.setEntry t e).dataLane = s.dataLane := rfl
@[simp] theorem State.setEntry_readHeld (s : State) (t : Tag) (e : Entry) :
    (s.setEntry t e).readHeld = s.readHeld := rfl
@[simp] theorem State.setEntry_writeHeld (s : State) (t : Tag) (e : Entry) :
    (s.setEntry t e).writeHeld = s.writeHeld := rfl
@[simp] theorem State.setEntry_outbound (s : State) (t : Tag) (e : Entry) :
    (s.setEntry t e).outbound = s.outbound := rfl
@[simp] theorem State.setEntry_downstream (s : State) (t : Tag) (e : Entry) :
    (s.setEntry t e).downstream = s.downstream := rfl
@[simp] theorem State.setEntry_service (s : State) (t : Tag) (e : Entry) : (s.setEntry t e).service = s.service := rfl
@[simp] theorem State.setEntry_queue (s : State) (t : Tag) (e : Entry) : (s.setEntry t e).queue = s.queue := rfl
@[simp] theorem State.setEntry_notices (s : State) (t : Tag) (e : Entry) : (s.setEntry t e).notices = s.notices := rfl
@[simp] theorem State.setEntry_attention (s : State) (t : Tag) (e : Entry) :
    (s.setEntry t e).attention = s.attention := rfl
@[simp] theorem State.setEntry_backoff (s : State) (t : Tag) (e : Entry) : (s.setEntry t e).backoff = s.backoff := rfl
@[simp] theorem State.setEntry_platform (s : State) (t : Tag) (e : Entry) :
    (s.setEntry t e).platform = s.platform := rfl
@[simp] theorem State.setEntry_presented (s : State) (t : Tag) (e : Entry) :
    (s.setEntry t e).presented = s.presented := rfl
@[simp] theorem State.setEntry_heldPowerEnter (s : State) (t : Tag) (e : Entry) :
    (s.setEntry t e).heldPowerEnter = s.heldPowerEnter := rfl
@[simp] theorem State.setEntry_engine (s : State) (t : Tag) (e : Entry) : (s.setEntry t e).engine = s.engine := rfl
@[simp] theorem State.setEntry_level (s : State) (t : Tag) (e : Entry) : (s.setEntry t e).level = s.level := rfl
@[simp] theorem State.setEntry_latched (s : State) (t : Tag) (e : Entry) : (s.setEntry t e).latched = s.latched := rfl
@[simp] theorem State.setEntry_vector (s : State) (t : Tag) (e : Entry) : (s.setEntry t e).vector = s.vector := rfl
@[simp] theorem State.setEntry_draws (s : State) (t : Tag) (e : Entry) : (s.setEntry t e).draws = s.draws := rfl

/-! ### freeEntry -/

@[simp] theorem State.freeEntry_pending (s : State) (t : Tag) : (s.freeEntry t).pending = s.pending := rfl
@[simp] theorem State.freeEntry_power (s : State) (t : Tag) : (s.freeEntry t).power = s.power := rfl
@[simp] theorem State.freeEntry_access (s : State) (t : Tag) : (s.freeEntry t).access = s.access := rfl
@[simp] theorem State.freeEntry_resume (s : State) (t : Tag) : (s.freeEntry t).resume = s.resume := rfl
@[simp] theorem State.freeEntry_faultCause (s : State) (t : Tag) : (s.freeEntry t).faultCause = s.faultCause := rfl
@[simp] theorem State.freeEntry_store (s : State) (t : Tag) : (s.freeEntry t).store = s.store := rfl
@[simp] theorem State.freeEntry_copies (s : State) (t : Tag) : (s.freeEntry t).copies = s.copies := rfl
@[simp] theorem State.freeEntry_scan (s : State) (t : Tag) : (s.freeEntry t).scan = s.scan := rfl
@[simp] theorem State.freeEntry_writer (s : State) (t : Tag) : (s.freeEntry t).writer = s.writer := rfl
@[simp] theorem State.freeEntry_view (s : State) (t : Tag) : (s.freeEntry t).view = s.view := rfl
@[simp] theorem State.freeEntry_pendingView (s : State) (t : Tag) : (s.freeEntry t).pendingView = s.pendingView := rfl
@[simp] theorem State.freeEntry_latch (s : State) (t : Tag) : (s.freeEntry t).latch = s.latch := rfl
@[simp] theorem State.freeEntry_slots (s : State) (t : Tag) : (s.freeEntry t).slots = s.slots := rfl
@[simp] theorem State.freeEntry_locks (s : State) (t : Tag) : (s.freeEntry t).locks = s.locks := rfl
@[simp] theorem State.freeEntry_sessionEnd (s : State) (t : Tag) : (s.freeEntry t).sessionEnd = s.sessionEnd := rfl
@[simp] theorem State.freeEntry_table (s : State) (t : Tag) : (s.freeEntry t).table = s.table.set t Entry.free := rfl
@[simp] theorem State.freeEntry_outstanding (s : State) (t : Tag) : (s.freeEntry t).outstanding = s.outstanding := rfl
@[simp] theorem State.freeEntry_lane (s : State) (t : Tag) : (s.freeEntry t).lane = s.lane := rfl
@[simp] theorem State.freeEntry_dataLane (s : State) (t : Tag) : (s.freeEntry t).dataLane = s.dataLane := rfl
@[simp] theorem State.freeEntry_readHeld (s : State) (t : Tag) : (s.freeEntry t).readHeld = s.readHeld := rfl
@[simp] theorem State.freeEntry_writeHeld (s : State) (t : Tag) : (s.freeEntry t).writeHeld = s.writeHeld := rfl
@[simp] theorem State.freeEntry_outbound (s : State) (t : Tag) : (s.freeEntry t).outbound = s.outbound := rfl
@[simp] theorem State.freeEntry_downstream (s : State) (t : Tag) : (s.freeEntry t).downstream = s.downstream := rfl
@[simp] theorem State.freeEntry_service (s : State) (t : Tag) : (s.freeEntry t).service = s.service := rfl
@[simp] theorem State.freeEntry_queue (s : State) (t : Tag) : (s.freeEntry t).queue = s.queue := rfl
@[simp] theorem State.freeEntry_notices (s : State) (t : Tag) : (s.freeEntry t).notices = s.notices := rfl
@[simp] theorem State.freeEntry_attention (s : State) (t : Tag) : (s.freeEntry t).attention = s.attention := rfl
@[simp] theorem State.freeEntry_backoff (s : State) (t : Tag) : (s.freeEntry t).backoff = s.backoff := rfl
@[simp] theorem State.freeEntry_platform (s : State) (t : Tag) : (s.freeEntry t).platform = s.platform := rfl
@[simp] theorem State.freeEntry_presented (s : State) (t : Tag) : (s.freeEntry t).presented = s.presented := rfl
@[simp] theorem State.freeEntry_heldPowerEnter (s : State) (t : Tag) :
    (s.freeEntry t).heldPowerEnter = s.heldPowerEnter := rfl
@[simp] theorem State.freeEntry_engine (s : State) (t : Tag) : (s.freeEntry t).engine = s.engine := rfl
@[simp] theorem State.freeEntry_level (s : State) (t : Tag) : (s.freeEntry t).level = s.level := rfl
@[simp] theorem State.freeEntry_latched (s : State) (t : Tag) : (s.freeEntry t).latched = s.latched := rfl
@[simp] theorem State.freeEntry_vector (s : State) (t : Tag) : (s.freeEntry t).vector = s.vector := rfl
@[simp] theorem State.freeEntry_draws (s : State) (t : Tag) : (s.freeEntry t).draws = s.draws := rfl

/-! ### setSlot -/

@[simp] theorem State.setSlot_pending (s : State) (r : RangeIndex) (k : KeySlot) :
    (s.setSlot r k).pending = s.pending := rfl
@[simp] theorem State.setSlot_power (s : State) (r : RangeIndex) (k : KeySlot) : (s.setSlot r k).power = s.power := rfl
@[simp] theorem State.setSlot_access (s : State) (r : RangeIndex) (k : KeySlot) :
    (s.setSlot r k).access = s.access := rfl
@[simp] theorem State.setSlot_resume (s : State) (r : RangeIndex) (k : KeySlot) :
    (s.setSlot r k).resume = s.resume := rfl
@[simp] theorem State.setSlot_faultCause (s : State) (r : RangeIndex) (k : KeySlot) :
    (s.setSlot r k).faultCause = s.faultCause := rfl
@[simp] theorem State.setSlot_store (s : State) (r : RangeIndex) (k : KeySlot) : (s.setSlot r k).store = s.store := rfl
@[simp] theorem State.setSlot_copies (s : State) (r : RangeIndex) (k : KeySlot) :
    (s.setSlot r k).copies = s.copies := rfl
@[simp] theorem State.setSlot_scan (s : State) (r : RangeIndex) (k : KeySlot) : (s.setSlot r k).scan = s.scan := rfl
@[simp] theorem State.setSlot_writer (s : State) (r : RangeIndex) (k : KeySlot) :
    (s.setSlot r k).writer = s.writer := rfl
@[simp] theorem State.setSlot_view (s : State) (r : RangeIndex) (k : KeySlot) : (s.setSlot r k).view = s.view := rfl
@[simp] theorem State.setSlot_pendingView (s : State) (r : RangeIndex) (k : KeySlot) :
    (s.setSlot r k).pendingView = s.pendingView := rfl
@[simp] theorem State.setSlot_latch (s : State) (r : RangeIndex) (k : KeySlot) : (s.setSlot r k).latch = s.latch := rfl
@[simp] theorem State.setSlot_slots (s : State) (r : RangeIndex) (k : KeySlot) :
    (s.setSlot r k).slots = s.slots.set r k := rfl
@[simp] theorem State.setSlot_locks (s : State) (r : RangeIndex) (k : KeySlot) : (s.setSlot r k).locks = s.locks := rfl
@[simp] theorem State.setSlot_sessionEnd (s : State) (r : RangeIndex) (k : KeySlot) :
    (s.setSlot r k).sessionEnd = s.sessionEnd := rfl
@[simp] theorem State.setSlot_table (s : State) (r : RangeIndex) (k : KeySlot) : (s.setSlot r k).table = s.table := rfl
@[simp] theorem State.setSlot_outstanding (s : State) (r : RangeIndex) (k : KeySlot) :
    (s.setSlot r k).outstanding = s.outstanding := rfl
@[simp] theorem State.setSlot_lane (s : State) (r : RangeIndex) (k : KeySlot) : (s.setSlot r k).lane = s.lane := rfl
@[simp] theorem State.setSlot_dataLane (s : State) (r : RangeIndex) (k : KeySlot) :
    (s.setSlot r k).dataLane = s.dataLane := rfl
@[simp] theorem State.setSlot_readHeld (s : State) (r : RangeIndex) (k : KeySlot) :
    (s.setSlot r k).readHeld = s.readHeld := rfl
@[simp] theorem State.setSlot_writeHeld (s : State) (r : RangeIndex) (k : KeySlot) :
    (s.setSlot r k).writeHeld = s.writeHeld := rfl
@[simp] theorem State.setSlot_outbound (s : State) (r : RangeIndex) (k : KeySlot) :
    (s.setSlot r k).outbound = s.outbound := rfl
@[simp] theorem State.setSlot_downstream (s : State) (r : RangeIndex) (k : KeySlot) :
    (s.setSlot r k).downstream = s.downstream := rfl
@[simp] theorem State.setSlot_service (s : State) (r : RangeIndex) (k : KeySlot) :
    (s.setSlot r k).service = s.service := rfl
@[simp] theorem State.setSlot_queue (s : State) (r : RangeIndex) (k : KeySlot) : (s.setSlot r k).queue = s.queue := rfl
@[simp] theorem State.setSlot_notices (s : State) (r : RangeIndex) (k : KeySlot) :
    (s.setSlot r k).notices = s.notices := rfl
@[simp] theorem State.setSlot_attention (s : State) (r : RangeIndex) (k : KeySlot) :
    (s.setSlot r k).attention = s.attention := rfl
@[simp] theorem State.setSlot_backoff (s : State) (r : RangeIndex) (k : KeySlot) :
    (s.setSlot r k).backoff = s.backoff := rfl
@[simp] theorem State.setSlot_platform (s : State) (r : RangeIndex) (k : KeySlot) :
    (s.setSlot r k).platform = s.platform := rfl
@[simp] theorem State.setSlot_presented (s : State) (r : RangeIndex) (k : KeySlot) :
    (s.setSlot r k).presented = s.presented := rfl
@[simp] theorem State.setSlot_heldPowerEnter (s : State) (r : RangeIndex) (k : KeySlot) :
    (s.setSlot r k).heldPowerEnter = s.heldPowerEnter := rfl
@[simp] theorem State.setSlot_engine (s : State) (r : RangeIndex) (k : KeySlot) :
    (s.setSlot r k).engine = s.engine := rfl
@[simp] theorem State.setSlot_level (s : State) (r : RangeIndex) (k : KeySlot) : (s.setSlot r k).level = s.level := rfl
@[simp] theorem State.setSlot_latched (s : State) (r : RangeIndex) (k : KeySlot) :
    (s.setSlot r k).latched = s.latched := rfl
@[simp] theorem State.setSlot_vector (s : State) (r : RangeIndex) (k : KeySlot) :
    (s.setSlot r k).vector = s.vector := rfl
@[simp] theorem State.setSlot_draws (s : State) (r : RangeIndex) (k : KeySlot) : (s.setSlot r k).draws = s.draws := rfl

/-! ### setLocks -/

@[simp] theorem State.setLocks_pending (s : State) (r : RangeIndex) (l : Locks) :
    (s.setLocks r l).pending = s.pending := rfl
@[simp] theorem State.setLocks_power (s : State) (r : RangeIndex) (l : Locks) : (s.setLocks r l).power = s.power := rfl
@[simp] theorem State.setLocks_access (s : State) (r : RangeIndex) (l : Locks) :
    (s.setLocks r l).access = s.access := rfl
@[simp] theorem State.setLocks_resume (s : State) (r : RangeIndex) (l : Locks) :
    (s.setLocks r l).resume = s.resume := rfl
@[simp] theorem State.setLocks_faultCause (s : State) (r : RangeIndex) (l : Locks) :
    (s.setLocks r l).faultCause = s.faultCause := rfl
@[simp] theorem State.setLocks_store (s : State) (r : RangeIndex) (l : Locks) : (s.setLocks r l).store = s.store := rfl
@[simp] theorem State.setLocks_copies (s : State) (r : RangeIndex) (l : Locks) :
    (s.setLocks r l).copies = s.copies := rfl
@[simp] theorem State.setLocks_scan (s : State) (r : RangeIndex) (l : Locks) : (s.setLocks r l).scan = s.scan := rfl
@[simp] theorem State.setLocks_writer (s : State) (r : RangeIndex) (l : Locks) :
    (s.setLocks r l).writer = s.writer := rfl
@[simp] theorem State.setLocks_view (s : State) (r : RangeIndex) (l : Locks) : (s.setLocks r l).view = s.view := rfl
@[simp] theorem State.setLocks_pendingView (s : State) (r : RangeIndex) (l : Locks) :
    (s.setLocks r l).pendingView = s.pendingView := rfl
@[simp] theorem State.setLocks_latch (s : State) (r : RangeIndex) (l : Locks) : (s.setLocks r l).latch = s.latch := rfl
@[simp] theorem State.setLocks_slots (s : State) (r : RangeIndex) (l : Locks) : (s.setLocks r l).slots = s.slots := rfl
@[simp] theorem State.setLocks_locks (s : State) (r : RangeIndex) (l : Locks) :
    (s.setLocks r l).locks = s.locks.set r l := rfl
@[simp] theorem State.setLocks_sessionEnd (s : State) (r : RangeIndex) (l : Locks) :
    (s.setLocks r l).sessionEnd = s.sessionEnd := rfl
@[simp] theorem State.setLocks_table (s : State) (r : RangeIndex) (l : Locks) : (s.setLocks r l).table = s.table := rfl
@[simp] theorem State.setLocks_outstanding (s : State) (r : RangeIndex) (l : Locks) :
    (s.setLocks r l).outstanding = s.outstanding := rfl
@[simp] theorem State.setLocks_lane (s : State) (r : RangeIndex) (l : Locks) : (s.setLocks r l).lane = s.lane := rfl
@[simp] theorem State.setLocks_dataLane (s : State) (r : RangeIndex) (l : Locks) :
    (s.setLocks r l).dataLane = s.dataLane := rfl
@[simp] theorem State.setLocks_readHeld (s : State) (r : RangeIndex) (l : Locks) :
    (s.setLocks r l).readHeld = s.readHeld := rfl
@[simp] theorem State.setLocks_writeHeld (s : State) (r : RangeIndex) (l : Locks) :
    (s.setLocks r l).writeHeld = s.writeHeld := rfl
@[simp] theorem State.setLocks_outbound (s : State) (r : RangeIndex) (l : Locks) :
    (s.setLocks r l).outbound = s.outbound := rfl
@[simp] theorem State.setLocks_downstream (s : State) (r : RangeIndex) (l : Locks) :
    (s.setLocks r l).downstream = s.downstream := rfl
@[simp] theorem State.setLocks_service (s : State) (r : RangeIndex) (l : Locks) :
    (s.setLocks r l).service = s.service := rfl
@[simp] theorem State.setLocks_queue (s : State) (r : RangeIndex) (l : Locks) : (s.setLocks r l).queue = s.queue := rfl
@[simp] theorem State.setLocks_notices (s : State) (r : RangeIndex) (l : Locks) :
    (s.setLocks r l).notices = s.notices := rfl
@[simp] theorem State.setLocks_attention (s : State) (r : RangeIndex) (l : Locks) :
    (s.setLocks r l).attention = s.attention := rfl
@[simp] theorem State.setLocks_backoff (s : State) (r : RangeIndex) (l : Locks) :
    (s.setLocks r l).backoff = s.backoff := rfl
@[simp] theorem State.setLocks_platform (s : State) (r : RangeIndex) (l : Locks) :
    (s.setLocks r l).platform = s.platform := rfl
@[simp] theorem State.setLocks_presented (s : State) (r : RangeIndex) (l : Locks) :
    (s.setLocks r l).presented = s.presented := rfl
@[simp] theorem State.setLocks_heldPowerEnter (s : State) (r : RangeIndex) (l : Locks) :
    (s.setLocks r l).heldPowerEnter = s.heldPowerEnter := rfl
@[simp] theorem State.setLocks_engine (s : State) (r : RangeIndex) (l : Locks) :
    (s.setLocks r l).engine = s.engine := rfl
@[simp] theorem State.setLocks_level (s : State) (r : RangeIndex) (l : Locks) : (s.setLocks r l).level = s.level := rfl
@[simp] theorem State.setLocks_latched (s : State) (r : RangeIndex) (l : Locks) :
    (s.setLocks r l).latched = s.latched := rfl
@[simp] theorem State.setLocks_vector (s : State) (r : RangeIndex) (l : Locks) :
    (s.setLocks r l).vector = s.vector := rfl
@[simp] theorem State.setLocks_draws (s : State) (r : RangeIndex) (l : Locks) : (s.setLocks r l).draws = s.draws := rfl

/-! ### notify -/

@[simp] theorem State.notify_pending (s : State) (n : NoticeName) : (s.notify n).pending = s.pending := rfl
@[simp] theorem State.notify_power (s : State) (n : NoticeName) : (s.notify n).power = s.power := rfl
@[simp] theorem State.notify_access (s : State) (n : NoticeName) : (s.notify n).access = s.access := rfl
@[simp] theorem State.notify_resume (s : State) (n : NoticeName) : (s.notify n).resume = s.resume := rfl
@[simp] theorem State.notify_faultCause (s : State) (n : NoticeName) : (s.notify n).faultCause = s.faultCause := rfl
@[simp] theorem State.notify_store (s : State) (n : NoticeName) : (s.notify n).store = s.store := rfl
@[simp] theorem State.notify_copies (s : State) (n : NoticeName) : (s.notify n).copies = s.copies := rfl
@[simp] theorem State.notify_scan (s : State) (n : NoticeName) : (s.notify n).scan = s.scan := rfl
@[simp] theorem State.notify_writer (s : State) (n : NoticeName) : (s.notify n).writer = s.writer := rfl
@[simp] theorem State.notify_view (s : State) (n : NoticeName) : (s.notify n).view = s.view := rfl
@[simp] theorem State.notify_pendingView (s : State) (n : NoticeName) : (s.notify n).pendingView = s.pendingView := rfl
@[simp] theorem State.notify_latch (s : State) (n : NoticeName) : (s.notify n).latch = s.latch := rfl
@[simp] theorem State.notify_slots (s : State) (n : NoticeName) : (s.notify n).slots = s.slots := rfl
@[simp] theorem State.notify_locks (s : State) (n : NoticeName) : (s.notify n).locks = s.locks := rfl
@[simp] theorem State.notify_sessionEnd (s : State) (n : NoticeName) : (s.notify n).sessionEnd = s.sessionEnd := rfl
@[simp] theorem State.notify_table (s : State) (n : NoticeName) : (s.notify n).table = s.table := rfl
@[simp] theorem State.notify_outstanding (s : State) (n : NoticeName) : (s.notify n).outstanding = s.outstanding := rfl
@[simp] theorem State.notify_lane (s : State) (n : NoticeName) : (s.notify n).lane = s.lane := rfl
@[simp] theorem State.notify_dataLane (s : State) (n : NoticeName) : (s.notify n).dataLane = s.dataLane := rfl
@[simp] theorem State.notify_readHeld (s : State) (n : NoticeName) : (s.notify n).readHeld = s.readHeld := rfl
@[simp] theorem State.notify_writeHeld (s : State) (n : NoticeName) : (s.notify n).writeHeld = s.writeHeld := rfl
@[simp] theorem State.notify_outbound (s : State) (n : NoticeName) : (s.notify n).outbound = s.outbound := rfl
@[simp] theorem State.notify_downstream (s : State) (n : NoticeName) : (s.notify n).downstream = s.downstream := rfl
@[simp] theorem State.notify_service (s : State) (n : NoticeName) : (s.notify n).service = s.service := rfl
@[simp] theorem State.notify_queue (s : State) (n : NoticeName) : (s.notify n).queue = s.queue := rfl
@[simp] theorem State.notify_notices (s : State) (n : NoticeName) : (s.notify n).notices = s.notices.add n := rfl
@[simp] theorem State.notify_attention (s : State) (n : NoticeName) : (s.notify n).attention = s.attention := rfl
@[simp] theorem State.notify_backoff (s : State) (n : NoticeName) : (s.notify n).backoff = s.backoff := rfl
@[simp] theorem State.notify_platform (s : State) (n : NoticeName) : (s.notify n).platform = s.platform := rfl
@[simp] theorem State.notify_presented (s : State) (n : NoticeName) : (s.notify n).presented = s.presented := rfl
@[simp] theorem State.notify_heldPowerEnter (s : State) (n : NoticeName) :
    (s.notify n).heldPowerEnter = s.heldPowerEnter := rfl
@[simp] theorem State.notify_engine (s : State) (n : NoticeName) : (s.notify n).engine = s.engine := rfl
@[simp] theorem State.notify_level (s : State) (n : NoticeName) : (s.notify n).level = s.level := rfl
@[simp] theorem State.notify_latched (s : State) (n : NoticeName) : (s.notify n).latched = s.latched := rfl
@[simp] theorem State.notify_vector (s : State) (n : NoticeName) : (s.notify n).vector = s.vector := rfl
@[simp] theorem State.notify_draws (s : State) (n : NoticeName) : (s.notify n).draws = s.draws := rfl

/-! ### drawn -/

@[simp] theorem State.drawn_pending (s : State) : (s.drawn).pending = s.pending := rfl
@[simp] theorem State.drawn_power (s : State) : (s.drawn).power = s.power := rfl
@[simp] theorem State.drawn_access (s : State) : (s.drawn).access = s.access := rfl
@[simp] theorem State.drawn_resume (s : State) : (s.drawn).resume = s.resume := rfl
@[simp] theorem State.drawn_faultCause (s : State) : (s.drawn).faultCause = s.faultCause := rfl
@[simp] theorem State.drawn_store (s : State) : (s.drawn).store = s.store := rfl
@[simp] theorem State.drawn_copies (s : State) : (s.drawn).copies = s.copies := rfl
@[simp] theorem State.drawn_scan (s : State) : (s.drawn).scan = s.scan := rfl
@[simp] theorem State.drawn_writer (s : State) : (s.drawn).writer = s.writer := rfl
@[simp] theorem State.drawn_view (s : State) : (s.drawn).view = s.view := rfl
@[simp] theorem State.drawn_pendingView (s : State) : (s.drawn).pendingView = s.pendingView := rfl
@[simp] theorem State.drawn_latch (s : State) : (s.drawn).latch = s.latch := rfl
@[simp] theorem State.drawn_slots (s : State) : (s.drawn).slots = s.slots := rfl
@[simp] theorem State.drawn_locks (s : State) : (s.drawn).locks = s.locks := rfl
@[simp] theorem State.drawn_sessionEnd (s : State) : (s.drawn).sessionEnd = s.sessionEnd := rfl
@[simp] theorem State.drawn_table (s : State) : (s.drawn).table = s.table := rfl
@[simp] theorem State.drawn_outstanding (s : State) : (s.drawn).outstanding = s.outstanding := rfl
@[simp] theorem State.drawn_lane (s : State) : (s.drawn).lane = s.lane := rfl
@[simp] theorem State.drawn_dataLane (s : State) : (s.drawn).dataLane = s.dataLane := rfl
@[simp] theorem State.drawn_readHeld (s : State) : (s.drawn).readHeld = s.readHeld := rfl
@[simp] theorem State.drawn_writeHeld (s : State) : (s.drawn).writeHeld = s.writeHeld := rfl
@[simp] theorem State.drawn_outbound (s : State) : (s.drawn).outbound = s.outbound := rfl
@[simp] theorem State.drawn_downstream (s : State) : (s.drawn).downstream = s.downstream := rfl
@[simp] theorem State.drawn_service (s : State) : (s.drawn).service = s.service := rfl
@[simp] theorem State.drawn_queue (s : State) : (s.drawn).queue = s.queue := rfl
@[simp] theorem State.drawn_notices (s : State) : (s.drawn).notices = s.notices := rfl
@[simp] theorem State.drawn_attention (s : State) : (s.drawn).attention = s.attention := rfl
@[simp] theorem State.drawn_backoff (s : State) : (s.drawn).backoff = s.backoff := rfl
@[simp] theorem State.drawn_platform (s : State) : (s.drawn).platform = s.platform := rfl
@[simp] theorem State.drawn_presented (s : State) : (s.drawn).presented = s.presented := rfl
@[simp] theorem State.drawn_heldPowerEnter (s : State) : (s.drawn).heldPowerEnter = s.heldPowerEnter := rfl
@[simp] theorem State.drawn_engine (s : State) : (s.drawn).engine = s.engine := rfl
@[simp] theorem State.drawn_level (s : State) : (s.drawn).level = s.level := rfl
@[simp] theorem State.drawn_latched (s : State) : (s.drawn).latched = s.latched := rfl
@[simp] theorem State.drawn_vector (s : State) : (s.drawn).vector = s.vector := rfl
@[simp] theorem State.drawn_draws (s : State) : (s.drawn).draws = s.draws + 1 := rfl

/-! ### handOut -/

@[simp] theorem State.handOut_pending (s : State) (t : Tag) (st : Status) (c : Nat) (f : Response) :
    (s.handOut t st c f).pending = s.pending := rfl
@[simp] theorem State.handOut_power (s : State) (t : Tag) (st : Status) (c : Nat) (f : Response) :
    (s.handOut t st c f).power = s.power := rfl
@[simp] theorem State.handOut_access (s : State) (t : Tag) (st : Status) (c : Nat) (f : Response) :
    (s.handOut t st c f).access = s.access := rfl
@[simp] theorem State.handOut_resume (s : State) (t : Tag) (st : Status) (c : Nat) (f : Response) :
    (s.handOut t st c f).resume = s.resume := rfl
@[simp] theorem State.handOut_faultCause (s : State) (t : Tag) (st : Status) (c : Nat) (f : Response) :
    (s.handOut t st c f).faultCause = s.faultCause := rfl
@[simp] theorem State.handOut_store (s : State) (t : Tag) (st : Status) (c : Nat) (f : Response) :
    (s.handOut t st c f).store = s.store := rfl
@[simp] theorem State.handOut_copies (s : State) (t : Tag) (st : Status) (c : Nat) (f : Response) :
    (s.handOut t st c f).copies = s.copies := rfl
@[simp] theorem State.handOut_scan (s : State) (t : Tag) (st : Status) (c : Nat) (f : Response) :
    (s.handOut t st c f).scan = s.scan := rfl
@[simp] theorem State.handOut_writer (s : State) (t : Tag) (st : Status) (c : Nat) (f : Response) :
    (s.handOut t st c f).writer = s.writer := rfl
@[simp] theorem State.handOut_view (s : State) (t : Tag) (st : Status) (c : Nat) (f : Response) :
    (s.handOut t st c f).view = s.view := rfl
@[simp] theorem State.handOut_pendingView (s : State) (t : Tag) (st : Status) (c : Nat) (f : Response) :
    (s.handOut t st c f).pendingView = s.pendingView := rfl
@[simp] theorem State.handOut_latch (s : State) (t : Tag) (st : Status) (c : Nat) (f : Response) :
    (s.handOut t st c f).latch = s.latch := rfl
@[simp] theorem State.handOut_slots (s : State) (t : Tag) (st : Status) (c : Nat) (f : Response) :
    (s.handOut t st c f).slots = s.slots := rfl
@[simp] theorem State.handOut_locks (s : State) (t : Tag) (st : Status) (c : Nat) (f : Response) :
    (s.handOut t st c f).locks = s.locks := rfl
@[simp] theorem State.handOut_sessionEnd (s : State) (t : Tag) (st : Status) (c : Nat) (f : Response) :
    (s.handOut t st c f).sessionEnd = s.sessionEnd := rfl
@[simp] theorem State.handOut_table (s : State) (t : Tag) (st : Status) (c : Nat) (f : Response) :
    (s.handOut t st c f).table = s.table.set t Entry.free := rfl
@[simp] theorem State.handOut_outstanding (s : State) (t : Tag) (st : Status) (c : Nat) (f : Response) :
    (s.handOut t st c f).outstanding = s.outstanding := rfl
@[simp] theorem State.handOut_lane (s : State) (t : Tag) (st : Status) (c : Nat) (f : Response) :
    (s.handOut t st c f).lane = s.lane := rfl
@[simp] theorem State.handOut_dataLane (s : State) (t : Tag) (st : Status) (c : Nat) (f : Response) :
    (s.handOut t st c f).dataLane = s.dataLane := rfl
@[simp] theorem State.handOut_readHeld (s : State) (t : Tag) (st : Status) (c : Nat) (f : Response) :
    (s.handOut t st c f).readHeld = s.readHeld := rfl
@[simp] theorem State.handOut_writeHeld (s : State) (t : Tag) (st : Status) (c : Nat) (f : Response) :
    (s.handOut t st c f).writeHeld = s.writeHeld := rfl
@[simp] theorem State.handOut_outbound (s : State) (t : Tag) (st : Status) (c : Nat) (f : Response) :
    (s.handOut t st c f).outbound = s.outbound ++ [controlCompletion t st c f] := rfl
@[simp] theorem State.handOut_downstream (s : State) (t : Tag) (st : Status) (c : Nat) (f : Response) :
    (s.handOut t st c f).downstream = s.downstream := rfl
@[simp] theorem State.handOut_service (s : State) (t : Tag) (st : Status) (c : Nat) (f : Response) :
    (s.handOut t st c f).service = s.service := rfl
@[simp] theorem State.handOut_queue (s : State) (t : Tag) (st : Status) (c : Nat) (f : Response) :
    (s.handOut t st c f).queue = s.queue := rfl
@[simp] theorem State.handOut_notices (s : State) (t : Tag) (st : Status) (c : Nat) (f : Response) :
    (s.handOut t st c f).notices = s.notices := rfl
@[simp] theorem State.handOut_attention (s : State) (t : Tag) (st : Status) (c : Nat) (f : Response) :
    (s.handOut t st c f).attention = s.attention := rfl
@[simp] theorem State.handOut_backoff (s : State) (t : Tag) (st : Status) (c : Nat) (f : Response) :
    (s.handOut t st c f).backoff = s.backoff := rfl
@[simp] theorem State.handOut_platform (s : State) (t : Tag) (st : Status) (c : Nat) (f : Response) :
    (s.handOut t st c f).platform = s.platform := rfl
@[simp] theorem State.handOut_presented (s : State) (t : Tag) (st : Status) (c : Nat) (f : Response) :
    (s.handOut t st c f).presented = s.presented := rfl
@[simp] theorem State.handOut_heldPowerEnter (s : State) (t : Tag) (st : Status) (c : Nat) (f : Response) :
    (s.handOut t st c f).heldPowerEnter = s.heldPowerEnter := rfl
@[simp] theorem State.handOut_engine (s : State) (t : Tag) (st : Status) (c : Nat) (f : Response) :
    (s.handOut t st c f).engine = s.engine := rfl
@[simp] theorem State.handOut_level (s : State) (t : Tag) (st : Status) (c : Nat) (f : Response) :
    (s.handOut t st c f).level = s.level := rfl
@[simp] theorem State.handOut_latched (s : State) (t : Tag) (st : Status) (c : Nat) (f : Response) :
    (s.handOut t st c f).latched = s.latched := rfl
@[simp] theorem State.handOut_vector (s : State) (t : Tag) (st : Status) (c : Nat) (f : Response) :
    (s.handOut t st c f).vector = s.vector := rfl
@[simp] theorem State.handOut_draws (s : State) (t : Tag) (st : Status) (c : Nat) (f : Response) :
    (s.handOut t st c f).draws = s.draws := rfl

/-! ### stage -/

@[simp] theorem State.stage_pending (s : State) (v : Service) (g : Stage) : (s.stage v g).pending = s.pending := rfl
@[simp] theorem State.stage_power (s : State) (v : Service) (g : Stage) : (s.stage v g).power = s.power := rfl
@[simp] theorem State.stage_access (s : State) (v : Service) (g : Stage) : (s.stage v g).access = s.access := rfl
@[simp] theorem State.stage_resume (s : State) (v : Service) (g : Stage) : (s.stage v g).resume = s.resume := rfl
@[simp] theorem State.stage_faultCause (s : State) (v : Service) (g : Stage) :
    (s.stage v g).faultCause = s.faultCause := rfl
@[simp] theorem State.stage_store (s : State) (v : Service) (g : Stage) : (s.stage v g).store = s.store := rfl
@[simp] theorem State.stage_copies (s : State) (v : Service) (g : Stage) : (s.stage v g).copies = s.copies := rfl
@[simp] theorem State.stage_scan (s : State) (v : Service) (g : Stage) : (s.stage v g).scan = s.scan := rfl
@[simp] theorem State.stage_writer (s : State) (v : Service) (g : Stage) : (s.stage v g).writer = s.writer := rfl
@[simp] theorem State.stage_view (s : State) (v : Service) (g : Stage) : (s.stage v g).view = s.view := rfl
@[simp] theorem State.stage_pendingView (s : State) (v : Service) (g : Stage) :
    (s.stage v g).pendingView = s.pendingView := rfl
@[simp] theorem State.stage_latch (s : State) (v : Service) (g : Stage) : (s.stage v g).latch = s.latch := rfl
@[simp] theorem State.stage_slots (s : State) (v : Service) (g : Stage) : (s.stage v g).slots = s.slots := rfl
@[simp] theorem State.stage_locks (s : State) (v : Service) (g : Stage) : (s.stage v g).locks = s.locks := rfl
@[simp] theorem State.stage_sessionEnd (s : State) (v : Service) (g : Stage) :
    (s.stage v g).sessionEnd = s.sessionEnd := rfl
@[simp] theorem State.stage_table (s : State) (v : Service) (g : Stage) : (s.stage v g).table = s.table := rfl
@[simp] theorem State.stage_outstanding (s : State) (v : Service) (g : Stage) :
    (s.stage v g).outstanding = s.outstanding := rfl
@[simp] theorem State.stage_lane (s : State) (v : Service) (g : Stage) : (s.stage v g).lane = s.lane := rfl
@[simp] theorem State.stage_dataLane (s : State) (v : Service) (g : Stage) : (s.stage v g).dataLane = s.dataLane := rfl
@[simp] theorem State.stage_readHeld (s : State) (v : Service) (g : Stage) : (s.stage v g).readHeld = s.readHeld := rfl
@[simp] theorem State.stage_writeHeld (s : State) (v : Service) (g : Stage) :
    (s.stage v g).writeHeld = s.writeHeld := rfl
@[simp] theorem State.stage_outbound (s : State) (v : Service) (g : Stage) : (s.stage v g).outbound = s.outbound := rfl
@[simp] theorem State.stage_downstream (s : State) (v : Service) (g : Stage) :
    (s.stage v g).downstream = s.downstream := rfl
@[simp] theorem State.stage_service (s : State) (v : Service) (g : Stage) :
    (s.stage v g).service = some { v with stage := g } := rfl
@[simp] theorem State.stage_queue (s : State) (v : Service) (g : Stage) : (s.stage v g).queue = s.queue := rfl
@[simp] theorem State.stage_notices (s : State) (v : Service) (g : Stage) : (s.stage v g).notices = s.notices := rfl
@[simp] theorem State.stage_attention (s : State) (v : Service) (g : Stage) :
    (s.stage v g).attention = s.attention := rfl
@[simp] theorem State.stage_backoff (s : State) (v : Service) (g : Stage) : (s.stage v g).backoff = s.backoff := rfl
@[simp] theorem State.stage_platform (s : State) (v : Service) (g : Stage) : (s.stage v g).platform = s.platform := rfl
@[simp] theorem State.stage_presented (s : State) (v : Service) (g : Stage) :
    (s.stage v g).presented = s.presented := rfl
@[simp] theorem State.stage_heldPowerEnter (s : State) (v : Service) (g : Stage) :
    (s.stage v g).heldPowerEnter = s.heldPowerEnter := rfl
@[simp] theorem State.stage_engine (s : State) (v : Service) (g : Stage) : (s.stage v g).engine = s.engine := rfl
@[simp] theorem State.stage_level (s : State) (v : Service) (g : Stage) : (s.stage v g).level = s.level := rfl
@[simp] theorem State.stage_latched (s : State) (v : Service) (g : Stage) : (s.stage v g).latched = s.latched := rfl
@[simp] theorem State.stage_vector (s : State) (v : Service) (g : Stage) : (s.stage v g).vector = s.vector := rfl
@[simp] theorem State.stage_draws (s : State) (v : Service) (g : Stage) : (s.stage v g).draws = s.draws := rfl

/-! ### dropHeldSectors -/

@[simp] theorem State.dropHeldSectors_pending (s : State) : (s.dropHeldSectors).pending = s.pending := rfl
@[simp] theorem State.dropHeldSectors_power (s : State) : (s.dropHeldSectors).power = s.power := rfl
@[simp] theorem State.dropHeldSectors_access (s : State) : (s.dropHeldSectors).access = s.access := rfl
@[simp] theorem State.dropHeldSectors_resume (s : State) : (s.dropHeldSectors).resume = s.resume := rfl
@[simp] theorem State.dropHeldSectors_faultCause (s : State) : (s.dropHeldSectors).faultCause = s.faultCause := rfl
@[simp] theorem State.dropHeldSectors_store (s : State) : (s.dropHeldSectors).store = s.store := rfl
@[simp] theorem State.dropHeldSectors_copies (s : State) : (s.dropHeldSectors).copies = s.copies := rfl
@[simp] theorem State.dropHeldSectors_scan (s : State) : (s.dropHeldSectors).scan = s.scan := rfl
@[simp] theorem State.dropHeldSectors_writer (s : State) : (s.dropHeldSectors).writer = s.writer := rfl
@[simp] theorem State.dropHeldSectors_view (s : State) : (s.dropHeldSectors).view = s.view := rfl
@[simp] theorem State.dropHeldSectors_pendingView (s : State) : (s.dropHeldSectors).pendingView = s.pendingView := rfl
@[simp] theorem State.dropHeldSectors_latch (s : State) : (s.dropHeldSectors).latch = s.latch := rfl
@[simp] theorem State.dropHeldSectors_slots (s : State) : (s.dropHeldSectors).slots = s.slots := rfl
@[simp] theorem State.dropHeldSectors_locks (s : State) : (s.dropHeldSectors).locks = s.locks := rfl
@[simp] theorem State.dropHeldSectors_sessionEnd (s : State) : (s.dropHeldSectors).sessionEnd = s.sessionEnd := rfl
@[simp] theorem State.dropHeldSectors_table (s : State) : (s.dropHeldSectors).table = s.table := rfl
@[simp] theorem State.dropHeldSectors_outstanding (s : State) : (s.dropHeldSectors).outstanding = s.outstanding := rfl
@[simp] theorem State.dropHeldSectors_lane (s : State) : (s.dropHeldSectors).lane = s.lane := rfl
@[simp] theorem State.dropHeldSectors_dataLane (s : State) : (s.dropHeldSectors).dataLane = s.dataLane := rfl
@[simp] theorem State.dropHeldSectors_readHeld (s : State) : (s.dropHeldSectors).readHeld = [] := rfl
@[simp] theorem State.dropHeldSectors_writeHeld (s : State) : (s.dropHeldSectors).writeHeld = [] := rfl
@[simp] theorem State.dropHeldSectors_outbound (s : State) : (s.dropHeldSectors).outbound = s.outbound := rfl
@[simp] theorem State.dropHeldSectors_downstream (s : State) : (s.dropHeldSectors).downstream = s.downstream := rfl
@[simp] theorem State.dropHeldSectors_service (s : State) : (s.dropHeldSectors).service = s.service := rfl
@[simp] theorem State.dropHeldSectors_queue (s : State) : (s.dropHeldSectors).queue = s.queue := rfl
@[simp] theorem State.dropHeldSectors_notices (s : State) : (s.dropHeldSectors).notices = s.notices := rfl
@[simp] theorem State.dropHeldSectors_attention (s : State) : (s.dropHeldSectors).attention = s.attention := rfl
@[simp] theorem State.dropHeldSectors_backoff (s : State) : (s.dropHeldSectors).backoff = s.backoff := rfl
@[simp] theorem State.dropHeldSectors_platform (s : State) : (s.dropHeldSectors).platform = s.platform := rfl
@[simp] theorem State.dropHeldSectors_presented (s : State) : (s.dropHeldSectors).presented = s.presented := rfl
@[simp] theorem State.dropHeldSectors_heldPowerEnter (s : State) :
    (s.dropHeldSectors).heldPowerEnter = s.heldPowerEnter := rfl
@[simp] theorem State.dropHeldSectors_engine (s : State) : (s.dropHeldSectors).engine = s.engine := rfl
@[simp] theorem State.dropHeldSectors_level (s : State) : (s.dropHeldSectors).level = s.level := rfl
@[simp] theorem State.dropHeldSectors_latched (s : State) : (s.dropHeldSectors).latched = s.latched := rfl
@[simp] theorem State.dropHeldSectors_vector (s : State) : (s.dropHeldSectors).vector = s.vector := rfl
@[simp] theorem State.dropHeldSectors_draws (s : State) : (s.dropHeldSectors).draws = s.draws := rfl

/-! ### flushChannel -/

@[simp] theorem State.flushChannel_pending (s : State) : s.flushChannel.pending = s.pending := rfl
@[simp] theorem State.flushChannel_power (s : State) : s.flushChannel.power = s.power := rfl
@[simp] theorem State.flushChannel_access (s : State) : s.flushChannel.access = s.access := rfl
@[simp] theorem State.flushChannel_resume (s : State) : s.flushChannel.resume = s.resume := rfl
@[simp] theorem State.flushChannel_faultCause (s : State) : s.flushChannel.faultCause = s.faultCause := rfl
@[simp] theorem State.flushChannel_store (s : State) : s.flushChannel.store = s.store := rfl
@[simp] theorem State.flushChannel_copies (s : State) : s.flushChannel.copies = s.copies := rfl
@[simp] theorem State.flushChannel_scan (s : State) : s.flushChannel.scan = s.scan := rfl
@[simp] theorem State.flushChannel_writer (s : State) : s.flushChannel.writer = s.writer := rfl
@[simp] theorem State.flushChannel_view (s : State) : s.flushChannel.view = s.view := rfl
@[simp] theorem State.flushChannel_pendingView (s : State) : s.flushChannel.pendingView = s.pendingView := rfl
@[simp] theorem State.flushChannel_latch (s : State) : s.flushChannel.latch = s.latch := rfl
@[simp] theorem State.flushChannel_slots (s : State) : s.flushChannel.slots = s.slots := rfl
@[simp] theorem State.flushChannel_locks (s : State) : s.flushChannel.locks = s.locks := rfl
@[simp] theorem State.flushChannel_sessionEnd (s : State) : s.flushChannel.sessionEnd = s.sessionEnd := rfl
@[simp] theorem State.flushChannel_table (s : State) : s.flushChannel.table = s.table := rfl
@[simp] theorem State.flushChannel_outstanding (s : State) : s.flushChannel.outstanding = s.outstanding := rfl
@[simp] theorem State.flushChannel_lane (s : State) : s.flushChannel.lane = s.lane := rfl
@[simp] theorem State.flushChannel_dataLane (s : State) : s.flushChannel.dataLane = s.dataLane := rfl
@[simp] theorem State.flushChannel_readHeld (s : State) : s.flushChannel.readHeld = s.readHeld := rfl
@[simp] theorem State.flushChannel_writeHeld (s : State) : s.flushChannel.writeHeld = s.writeHeld := rfl
@[simp] theorem State.flushChannel_outbound (s : State) : s.flushChannel.outbound = s.outbound := rfl
@[simp] theorem State.flushChannel_downstream (s : State) : s.flushChannel.downstream = s.downstream := rfl
@[simp] theorem State.flushChannel_service (s : State) :
    s.flushChannel.service = s.service.map fun v => { v with discard := true } := rfl
@[simp] theorem State.flushChannel_queue (s : State) : s.flushChannel.queue = [] := rfl
@[simp] theorem State.flushChannel_notices (s : State) : s.flushChannel.notices = s.notices := rfl
@[simp] theorem State.flushChannel_attention (s : State) : s.flushChannel.attention = s.attention := rfl
@[simp] theorem State.flushChannel_backoff (s : State) : s.flushChannel.backoff = s.backoff := rfl
@[simp] theorem State.flushChannel_platform (s : State) : s.flushChannel.platform = s.platform := rfl
@[simp] theorem State.flushChannel_presented (s : State) : s.flushChannel.presented = s.presented := rfl
@[simp] theorem State.flushChannel_heldPowerEnter (s : State) :
    s.flushChannel.heldPowerEnter = s.heldPowerEnter := rfl
@[simp] theorem State.flushChannel_engine (s : State) : s.flushChannel.engine = s.engine := rfl
@[simp] theorem State.flushChannel_level (s : State) : s.flushChannel.level = s.level := rfl
@[simp] theorem State.flushChannel_latched (s : State) : s.flushChannel.latched = s.latched := rfl
@[simp] theorem State.flushChannel_vector (s : State) : s.flushChannel.vector = s.vector := rfl
@[simp] theorem State.flushChannel_draws (s : State) : s.flushChannel.draws = s.draws := rfl

end Sys2Proof.Machine
end

