-- ==== Sys2Proof/Laws/Frame.lean ====
section
/-! SUPPORT. Laws/Frame.lean: what no operation of the blocks changes. `State.fixed` gathers the identity record (R78), the
known-answer vector (R40), the block's own queue, the lanes, the control queue, the held POWER ENTER and the place between
power-good and power loss; an operation with a `_fixed` lemma leaves every one of them as it was. -/

namespace Sys2Proof.Machine

/-- The parts of the state that only the lanes, the link notices and the power events change. -/
def State.fixed (s : State) :
    Identity × KnownAnswer × List Instr × List Capsule × List DataSector × List Waiting × Bool × Power :=
  (s.store.identity, s.vector, s.pending, s.lane, s.dataLane, s.queue, s.heldPowerEnter, s.power)

/-- Two states agree on `fixed` when they agree on each of its parts. -/
theorem State.fixed_eq_iff (s t : State) : s.fixed = t.fixed ↔
    s.store.identity = t.store.identity ∧ s.vector = t.vector ∧ s.pending = t.pending ∧ s.lane = t.lane ∧
      s.dataLane = t.dataLane ∧ s.queue = t.queue ∧ s.heldPowerEnter = t.heldPowerEnter ∧ s.power = t.power := by
  simp [State.fixed]

@[simp] theorem State.fixed_mk (pe po x2 x3 x4 st x6 x7 x8 x9 x10 x11 x12 x13 x14 x15 x16 la da x19 x20 x21 x22 x23 qu
    x25 x26 x27 x28 x29 he x31 x32 x33 ve x35) :
    (State.mk pe po x2 x3 x4 st x6 x7 x8 x9 x10 x11 x12 x13 x14 x15 x16 la da x19 x20 x21 x22 x23 qu x25 x26 x27 x28
    x29 he x31 x32 x33 ve x35).fixed =
      (Store.identity st, ve, pe, la, da, qu, he, po) := rfl

@[simp] theorem State.fixed_fold (s : State) :
    (s.store.identity, s.vector, s.pending, s.lane, s.dataLane, s.queue, s.heldPowerEnter, s.power) = s.fixed := rfl

/-! ## Machine/Flags.lean and Machine/Ops.lean -/

@[simp] theorem State.notify_fixed (s : State) (n : NoticeName) : (s.notify n).fixed = s.fixed := rfl

@[simp] theorem State.notifyIf_fixed (s : State) (c : Bool) (n : NoticeName) :
    (s.notifyIf c n).fixed = s.fixed := by
  unfold State.notifyIf
  split <;> simp

@[simp] theorem State.sendUp_fixed (s : State) (m : UpMessage) : (s.sendUp m).fixed = s.fixed := rfl

@[simp] theorem State.sendDown_fixed (s : State) (m : DownMessage) : (s.sendDown m).fixed = s.fixed := rfl

@[simp] theorem State.refuse_fixed (s : State) (k t : Byte) (st : Status) : (s.refuse k t st).fixed = s.fixed := rfl

@[simp] theorem State.drawn_fixed (s : State) : (s.drawn).fixed = s.fixed := rfl

@[simp] theorem State.setEntry_fixed (s : State) (t : Tag) (e : Entry) : (s.setEntry t e).fixed = s.fixed := rfl

@[simp] theorem State.freeEntry_fixed (s : State) (t : Tag) : (s.freeEntry t).fixed = s.fixed := rfl

@[simp] theorem State.setSlot_fixed (s : State) (r : RangeIndex) (k : KeySlot) :
    (s.setSlot r k).fixed = s.fixed := rfl

@[simp] theorem State.setLocks_fixed (s : State) (r : RangeIndex) (l : Locks) :
    (s.setLocks r l).fixed = s.fixed := rfl

@[simp] theorem State.raiseUse_fixed (s : State) (r : RangeIndex) : (s.raiseUse r).fixed = s.fixed := rfl

@[simp] theorem State.releaseUse_fixed (s : State) (r : RangeIndex) : (s.releaseUse r).fixed = s.fixed := rfl

@[simp] theorem State.releaseSegment_fixed (s : State) (g : Segment) : (s.releaseSegment g).fixed = s.fixed := by
  unfold State.releaseSegment
  split <;> simp

@[simp] theorem State.bothLock_fixed (s : State) (r : RangeIndex) : (s.bothLock r).fixed = s.fixed := rfl

@[simp] theorem State.bothLockAll_fixed (s : State) (rs : List RangeIndex) :
    (s.bothLockAll rs).fixed = s.fixed := by
  unfold State.bothLockAll
  induction rs generalizing s with
  | nil => rfl
  | cons r rs ih => simp [ih]

@[simp] theorem State.emptySlots_fixed (s : State) : (s.emptySlots).fixed = s.fixed := rfl

@[simp] theorem State.enter_fixed (s : State) (a : Access) : (s.enter a).fixed = s.fixed := by
  unfold State.enter
  split <;> simp

/-! ## Machine/Views.lean -/

@[simp] theorem State.show_fixed (s : State) (v : View) : (s.show v).fixed = s.fixed := rfl

@[simp] theorem State.showLocked_fixed (s : State) : (s.showLocked).fixed = s.fixed := rfl

@[simp] theorem State.enterBlank_fixed (s : State) : (s.enterBlank).fixed = s.fixed := by
  simp [State.enterBlank]

@[simp] theorem State.enterLocked_fixed (s : State) : (s.enterLocked).fixed = s.fixed := by
  simp [State.enterLocked]

@[simp] theorem State.enterWiping_fixed (s : State) : (s.enterWiping).fixed = s.fixed := by
  simp [State.enterWiping]

@[simp] theorem State.enterFault_fixed (s : State) (c : FaultCause) : (s.enterFault c).fixed = s.fixed := by
  show ((s.enter .fault).show View.empty).fixed = s.fixed
  simp

@[simp] theorem State.takeLayout_fixed (s : State) (l : Layout) : (s.takeLayout l).fixed = s.fixed := by
  unfold State.takeLayout
  split <;> simp

/-! ## Machine/Operands.lean -/

theorem State.bindSegment_fixed (k : Kind) (s : State) (g : Segment) : (State.bindSegment k s g).fixed = s.fixed := by
  unfold State.bindSegment
  split <;> rfl

/-- Binding the segments of a capsule one after another. -/
theorem State.bindSegments_fixed (k : Kind) (gs : List Segment) (s : State) :
    (gs.foldl (State.bindSegment k) s).fixed = s.fixed := by
  induction gs generalizing s with
  | nil => rfl
  | cons g gs ih => rw [List.foldl_cons, ih, State.bindSegment_fixed]

@[simp] theorem State.bind_fixed (s : State) (t : Tag) (k : Kind) (v c : Nat) (gs : List Segment) (p : Option Nat) :
    (s.bind t k v c gs p).fixed = s.fixed := by
  simp [State.bind, State.bindSegments_fixed]

/-! ## Machine/Table.lean -/

@[simp] theorem State.completeEntry_fixed (s : State) (t : Tag) (st : Status) :
    (s.completeEntry t st).fixed = s.fixed := by
  simp [State.completeEntry]

@[simp] theorem State.closeEntry_fixed (s : State) (t : Tag) : (s.closeEntry t).fixed = s.fixed := by
  unfold State.closeEntry
  (repeat' split) <;> simp

@[simp] theorem State.updateSegment_fixed (s : State) (t : Tag) (n : Nat) (f : Segment → Segment) :
    (s.updateSegment t n f).fixed = s.fixed := by
  simp [State.updateSegment]

@[simp] theorem State.finishSegment_fixed (s : State) (t : Tag) (g : Segment) :
    (s.finishSegment t g).fixed = s.fixed := by
  unfold State.finishSegment
  dsimp only
  split <;> simp

@[simp] theorem State.releaseEntry_fixed (s : State) (t : Tag) : (s.releaseEntry t).fixed = s.fixed := by
  unfold State.releaseEntry
  generalize (s.table[t].segments.filter fun g => g.status.isNone) = gs
  induction gs generalizing s with
  | nil => rfl
  | cons g gs ih => simp [ih]

@[simp] theorem State.abortEntry_fixed (s : State) (t : Tag) : (s.abortEntry t).fixed = s.fixed := by
  unfold State.abortEntry
  split <;> simp

@[simp] theorem State.orphanEntry_fixed (s : State) (t : Tag) : (s.orphanEntry t).fixed = s.fixed := by
  unfold State.orphanEntry
  split <;> simp

@[simp] theorem State.dropHeldSectors_fixed (s : State) : (s.dropHeldSectors).fixed = s.fixed := rfl

/-- Striking the entries of a list of tags one after another. -/
theorem State.abortEntries_fixed (ts : List Tag) (s : State) : (ts.foldl State.abortEntry s).fixed = s.fixed := by
  induction ts generalizing s with
  | nil => rfl
  | cons t ts ih => simp [ih]

theorem State.orphanEntries_fixed (ts : List Tag) (s : State) : (ts.foldl State.orphanEntry s).fixed = s.fixed := by
  induction ts generalizing s with
  | nil => rfl
  | cons t ts ih => simp [ih]

@[simp] theorem State.abortTable_fixed (s : State) : (s.abortTable).fixed = s.fixed := by
  simp [State.abortTable, State.abortEntries_fixed]

@[simp] theorem State.orphanTable_fixed (s : State) : (s.orphanTable).fixed = s.fixed := by
  simp [State.orphanTable, State.orphanEntries_fixed]

/-! ## Machine/Store.lean -/

@[simp] theorem State.takeContent_fixed (s : State) (c : Content) : (s.takeContent c).fixed = s.fixed := by
  unfold State.takeContent
  split <;> simp

@[simp] theorem State.requestWrite_fixed (s : State) (c : Content) (who : List Waiter) :
    (s.requestWrite c who).fixed = s.fixed := by
  unfold State.requestWrite
  split <;> simp

@[simp] theorem State.requestWriteIf_fixed (s : State) (b : Bool) (c : Content) (who : List Waiter) :
    (s.requestWriteIf b c who).fixed = s.fixed := by
  unfold State.requestWriteIf
  split <;> simp

@[simp] theorem State.landWrite_fixed (s : State) (w : RecordWrite) : (s.landWrite w).fixed = s.fixed := by
  unfold State.landWrite
  rw [State.takeContent_fixed]
  cases h : w.content <;> rfl

/-! ## Machine/Answers.lean -/

@[simp] theorem State.handOut_fixed (s : State) (t : Tag) (st : Status) (c : Nat) (f : Response) :
    (s.handOut t st c f).fixed = s.fixed := rfl

@[simp] theorem State.answer_fixed (s : State) (st : Status) (f : Response) : (s.answer st f).fixed = s.fixed := by
  unfold State.answer
  (repeat' split) <;> simp

@[simp] theorem State.answerPlain_fixed (s : State) (st : Status) : (s.answerPlain st).fixed = s.fixed := by
  simp [State.answerPlain]

@[simp] theorem State.stage_fixed (s : State) (v : Service) (g : Stage) : (s.stage v g).fixed = s.fixed := rfl

@[simp] theorem State.awaitWrite_fixed (s : State) (v : Service) (g : Stage) (c : Content) :
    (s.awaitWrite v g c).fixed = s.fixed := by
  simp [State.awaitWrite]

/-! ## Machine/Locks.lean -/

@[simp] theorem State.loadRange_fixed (s : State) (k : RangeKey) : (s.loadRange k).fixed = s.fixed := rfl

@[simp] theorem State.loadRanges_fixed (s : State) (ks : List RangeKey) : (s.loadRanges ks).fixed = s.fixed := by
  unfold State.loadRanges
  induction ks generalizing s with
  | nil => rfl
  | cons k ks ih => simp [ih]

@[simp] theorem State.loadGlobal_fixed (s : State) (k : Key) : (s.loadGlobal k).fixed = s.fixed := rfl

@[simp] theorem State.markCorrupt_fixed (s : State) (i : SlotIndex) : (s.markCorrupt i).fixed = s.fixed := rfl

@[simp] theorem State.reachBlank_fixed (s : State) : (s.reachBlank).fixed = s.fixed := by
  unfold State.reachBlank
  split <;> simp

@[simp] theorem State.lockOn_fixed (s : State) (v : View) (f : LockOn → Bool) : (s.lockOn v f).fixed = s.fixed := by
  simp [State.lockOn]

@[simp] theorem State.lowPowerLockOn_fixed (s : State) : (s.lowPowerLockOn).fixed = s.fixed := by
  unfold State.lowPowerLockOn
  split <;> simp

@[simp] theorem State.asleepLockOn_fixed (s : State) : (s.asleepLockOn).fixed = s.fixed := by
  unfold State.asleepLockOn
  split <;> simp

@[simp] theorem State.linkResetLockOn_fixed (s : State) : (s.linkResetLockOn).fixed = s.fixed := by
  unfold State.linkResetLockOn
  split <;> simp

@[simp] theorem State.markSessionEnd_fixed (s : State) : (s.markSessionEnd).fixed = s.fixed := by
  show (s.bothLockAll allRanges).fixed = s.fixed
  simp

@[simp] theorem State.completeSessionEnd_fixed (s : State) : (s.completeSessionEnd).fixed = s.fixed := by
  have h : ({ s with sessionEnd := false }.enterLocked).fixed = s.fixed := by
    rw [State.enterLocked_fixed]; rfl
  unfold State.completeSessionEnd
  dsimp only
  split <;> simp [h]

@[simp] theorem State.enclosureLock_fixed (s : State) : (s.enclosureLock).fixed = s.fixed := by
  unfold State.enclosureLock
  split <;> simp

/-! ## Machine/Wipe.lean -/

@[simp] theorem State.strikeService_fixed (s : State) : (s.strikeService).fixed = s.fixed := by
  unfold State.strikeService
  (repeat' split) <;> simp

@[simp] theorem State.purgeKeys_fixed (s : State) : s.purgeKeys.fixed = s.fixed := by
  simp [State.purgeKeys]

@[simp] theorem State.purgeUnit_fixed (s : State) : s.purgeUnit.fixed = s.fixed := by
  simp [State.purgeUnit]

@[simp] theorem State.purge_fixed (s : State) : s.purge.fixed = s.fixed := by
  simp [State.purge]

@[simp] theorem State.engineWrite_fixed (s : State) (j : WipeJob) (g : WipeStage) (c : Content) :
    (s.engineWrite j g c).fixed = s.fixed := by
  unfold State.engineWrite
  rw [State.requestWrite_fixed]
  rfl

@[simp] theorem State.trigger_fixed (s : State) (r : Reason) (d : Depth) : (s.trigger r d).fixed = s.fixed := by
  unfold State.trigger
  split <;> simp

@[simp] theorem State.triggerWipe_fixed (s : State) (r : Reason) : (s.triggerWipe r).fixed = s.fixed := by
  simp [State.triggerWipe]

@[simp] theorem State.rewriteLayout_fixed (s : State) (j : WipeJob) : (s.rewriteLayout j).fixed = s.fixed := by
  simp [State.rewriteLayout]

@[simp] theorem State.rewriteOwner_fixed (s : State) (j : WipeJob) : (s.rewriteOwner j).fixed = s.fixed := by
  unfold State.rewriteOwner
  split <;> simp

@[simp] theorem State.rewriteUser_fixed (s : State) (j : WipeJob) (i : SlotIndex) :
    (s.rewriteUser j i).fixed = s.fixed := by
  simp [State.rewriteUser]

@[simp] theorem State.writeDone_fixed (s : State) (j : WipeJob) : (s.writeDone j).fixed = s.fixed := by
  simp [State.writeDone]

@[simp] theorem State.beginFinish_fixed (s : State) (j : WipeJob) : (s.beginFinish j).fixed = s.fixed := by
  unfold State.beginFinish
  (repeat' split) <;> simp

@[simp] theorem State.endWipe_fixed (s : State) (j : WipeJob) : (s.endWipe j).fixed = s.fixed := by
  unfold State.endWipe
  dsimp only
  (repeat' split) <;> simp

@[simp] theorem State.sendStep_fixed (s : State) (p : SanitizeStep) : (s.sendStep p).fixed = s.fixed := rfl

theorem State.issueStep_fixed (j : WipeJob) (s : State) (n : Nat) : (State.issueStep j s n).fixed = s.fixed := by
  unfold State.issueStep
  (repeat' split) <;> rfl

/-- Issuing a step on each of several sub-tags. -/
theorem State.issueSteps_fixed (j : WipeJob) (ns : List Nat) (s : State) :
    (ns.foldl (State.issueStep j) s).fixed = s.fixed := by
  induction ns generalizing s with
  | nil => rfl
  | cons n ns ih => rw [List.foldl_cons, ih, State.issueStep_fixed]

@[simp] theorem State.advanceFrontier_fixed (s : State) (j : WipeJob) : (s.advanceFrontier j).fixed = s.fixed := by
  unfold State.advanceFrontier
  (repeat' split) <;> simp

@[simp] theorem State.endSanitizeIfDone_fixed (s : State) (j : WipeJob) :
    (s.endSanitizeIfDone j).fixed = s.fixed := by
  unfold State.endSanitizeIfDone
  (repeat' split) <;> simp

@[simp] theorem State.settleSanitize_fixed (s : State) (j : WipeJob) : (s.settleSanitize j).fixed = s.fixed := by
  simp [State.settleSanitize]

@[simp] theorem State.startSanitize_fixed (s : State) (j : WipeJob) (c : Nat) :
    (s.startSanitize j c).fixed = s.fixed := by
  unfold State.startSanitize
  split
  · rfl
  · simp only [State.settleSanitize_fixed, State.issueSteps_fixed]
    rfl

@[simp] theorem State.setSanitize_fixed (s : State) (j : WipeJob) (z : Sanitize) :
    (s.setSanitize j z).fixed = s.fixed := rfl

@[simp] theorem State.stepDone_fixed (s : State) (j : WipeJob) (z : Sanitize) (p : SanitizeStep) :
    (s.stepDone j z p).fixed = s.fixed := by
  simp [State.stepDone, State.issueStep_fixed]

@[simp] theorem State.stepCompletion_fixed (s : State) (n : Nat) (st : Status) :
    (s.stepCompletion n st).fixed = s.fixed := by
  unfold State.stepCompletion
  (repeat' split) <;> simp

@[simp] theorem State.engineTold_fixed (s : State) : (s.engineTold).fixed = s.fixed := by
  unfold State.engineTold
  (repeat' split) <;> simp

@[simp] theorem State.resumeWipe_fixed (s : State) : (s.resumeWipe).fixed = s.fixed := by
  unfold State.resumeWipe
  (repeat' split) <;> simp

@[simp] theorem State.wakeEngine_fixed (s : State) : (s.wakeEngine).fixed = s.fixed := by
  unfold State.wakeEngine
  (repeat' split) <;> simp

/-! ## Machine/Gate.lean -/

@[simp] theorem State.enterGate_fixed (s : State) (v : Service) (i : SlotIndex) :
    (s.enterGate v i).fixed = s.fixed := by
  unfold State.enterGate
  split <;> simp

@[simp] theorem State.startBackoff_fixed (s : State) : (s.startBackoff).fixed = s.fixed := by
  unfold State.startBackoff
  split <;> simp

@[simp] theorem State.gateFailed_fixed (s : State) : (s.gateFailed).fixed = s.fixed := by
  unfold State.gateFailed
  split <;> simp

@[simp] theorem State.gatePassed_fixed (s : State) (v : Service) : (s.gatePassed v).fixed = s.fixed := by
  simp [State.gatePassed]

@[simp] theorem State.gateVerify_fixed (s : State) (v : Service) (i : SlotIndex) (x : Secret) :
    (s.gateVerify v i x).fixed = s.fixed := by
  unfold State.gateVerify
  split <;> simp

/-! ## Machine/Requests.lean -/

@[simp] theorem State.serveQueryState_fixed (s : State) : (s.serveQueryState).fixed = s.fixed := by
  unfold State.serveQueryState
  rw [State.answer_fixed]
  rfl

@[simp] theorem State.serveQueryRanges_fixed (s : State) : (s.serveQueryRanges).fixed = s.fixed := by
  simp [State.serveQueryRanges]

@[simp] theorem State.serveSetAttention_fixed (s : State) : (s.serveSetAttention).fixed = s.fixed := by
  unfold State.serveSetAttention
  rw [State.answerPlain_fixed]
  rfl

@[simp] theorem State.serveSelfTest_fixed (s : State) (v : Service) : (s.serveSelfTest v).fixed = s.fixed := by
  simp [State.serveSelfTest]

@[simp] theorem State.servePresentPlatform_fixed (s : State) (x : Token) :
    (s.servePresentPlatform x).fixed = s.fixed := by
  unfold State.servePresentPlatform
  dsimp only
  (repeat' split) <;> simp

@[simp] theorem State.serveTakeOwnership_fixed (s : State) (v : Service) (x : Secret) :
    (s.serveTakeOwnership v x).fixed = s.fixed := by
  simp [State.serveTakeOwnership]

@[simp] theorem State.ownershipTaken_fixed (s : State) : (s.ownershipTaken).fixed = s.fixed := by
  simp [State.ownershipTaken]

@[simp] theorem State.mismatch_fixed (s : State) (i : SlotIndex) : (s.mismatch i).fixed = s.fixed := by
  simp [State.mismatch]

@[simp] theorem State.unlockLoad_fixed (s : State) (w : View) (ks : List RangeKey) (now : Bool) :
    (s.unlockLoad w ks now).fixed = s.fixed := by
  have h : ({ s with locks := Vector.replicate 16 Locks.both }.loadRanges ks).fixed = s.fixed := by
    rw [State.loadRanges_fixed]; rfl
  have a (x : Access) : (({ s with locks := Vector.replicate 16 Locks.both }.loadRanges ks).enter x).fixed = s.fixed := by
    rw [State.enter_fixed, h]
  unfold State.unlockLoad
  dsimp only
  (repeat' split) <;> simp [a]

@[simp] theorem State.unlockAnswer_fixed (s : State) (v : Service) (now : Bool) (f : Response) :
    (s.unlockAnswer v now f).fixed = s.fixed := by
  unfold State.unlockAnswer
  (repeat' split) <;> simp

@[simp] theorem State.unlockLocked_fixed (s : State) (v : Service) (i : SlotIndex) (x : Secret) (b : Byte) :
    (s.unlockLocked v i x b).fixed = s.fixed := by
  unfold State.unlockLocked
  (repeat' split) <;> simp

@[simp] theorem State.unlockOpen_fixed (s : State) (i : SlotIndex) (x : Secret) :
    (s.unlockOpen i x).fixed = s.fixed := by
  unfold State.unlockOpen
  (repeat' split) <;> simp

@[simp] theorem State.duress_fixed (s : State) : (s.duress).fixed = s.fixed := by
  simp [State.duress]

@[simp] theorem State.serveUnlock_fixed (s : State) (v : Service) (i : SlotIndex) (x : Secret) (b : Byte) :
    (s.serveUnlock v i x b).fixed = s.fixed := by
  unfold State.serveUnlock
  (repeat' split) <;> simp

@[simp] theorem State.serveSetCredential_fixed (s : State) (v : Service) (x : Secret) (a b c : Byte) (y : Secret) (l : List Byte) :
    (s.serveSetCredential v x a b c y l).fixed = s.fixed := by
  unfold State.serveSetCredential
  (repeat' (first | split | (dsimp only; split))) <;> simp

@[simp] theorem State.serveChangeSecret_fixed (s : State) (v : Service) (i : SlotIndex) (x y : Secret) :
    (s.serveChangeSecret v i x y).fixed = s.fixed := by
  unfold State.serveChangeSecret
  split <;> simp

@[simp] theorem State.serveLock_fixed (s : State) (v : Service) (i : SlotIndex) (l : List Byte) :
    (s.serveLock v i l).fixed = s.fixed := by
  unfold State.serveLock
  (repeat' split) <;> simp

@[simp] theorem State.applyLocks_fixed (s : State) (c : LockChange) : (s.applyLocks c).fixed = s.fixed := by
  unfold State.applyLocks
  (repeat' split) <;> simp

/-- Applying the entries of SET LOCKS one after another. -/
theorem State.applyAllLocks_fixed (cs : List LockChange) (s : State) : (cs.foldl State.applyLocks s).fixed = s.fixed := by
  induction cs generalizing s with
  | nil => rfl
  | cons c cs ih => simp [ih]

@[simp] theorem State.serveSetLocks_fixed (s : State) (i : SlotIndex) (es : List LockEntry) :
    (s.serveSetLocks i es).fixed = s.fixed := by
  unfold State.serveSetLocks
  (repeat' split)
  all_goals simp [State.applyAllLocks_fixed]

@[simp] theorem State.serveEndSession_fixed (s : State) (v : Service) : (s.serveEndSession v).fixed = s.fixed := by
  simp [State.serveEndSession]

@[simp] theorem State.writeLayout_fixed (s : State) (v : Service) (j : RangeJob) (e : RangeEntry) :
    (s.writeLayout v j e).fixed = s.fixed := by
  simp [State.writeLayout]

@[simp] theorem State.serveDefineRange_fixed (s : State) (v : Service) (a b c : Byte) (m n : Nat) :
    (s.serveDefineRange v a b c m n).fixed = s.fixed := by
  unfold State.serveDefineRange
  (repeat' (first | split | (dsimp only; split))) <;> simp

@[simp] theorem State.serveDeleteRange_fixed (s : State) (v : Service) (b : Byte) :
    (s.serveDeleteRange v b).fixed = s.fixed := by
  unfold State.serveDeleteRange
  (repeat' split) <;> simp

@[simp] theorem State.serveEraseRange_fixed (s : State) (v : Service) (b : Byte) :
    (s.serveEraseRange v b).fixed = s.fixed := by
  unfold State.serveEraseRange
  (repeat' split) <;> simp

@[simp] theorem State.eraseLayout_fixed (s : State) (v : Service) (r : RangeIndex) :
    (s.eraseLayout v r).fixed = s.fixed := by
  simp [State.eraseLayout]

@[simp] theorem State.rangeUsers_fixed (s : State) (v : Service) (j : RangeJob) :
    (s.rangeUsers v j).fixed = s.fixed := by
  unfold State.rangeUsers
  split <;> simp

@[simp] theorem State.rangeOwner_fixed (s : State) (v : Service) (x : Secret) (j : RangeJob) :
    (s.rangeOwner v x j).fixed = s.fixed := by
  unfold State.rangeOwner
  (repeat' split) <;> simp

@[simp] theorem State.serveImageWriteEnable_fixed (s : State) : (s.serveImageWriteEnable).fixed = s.fixed := by
  unfold State.serveImageWriteEnable
  rw [State.answerPlain_fixed]
  rfl

@[simp] theorem State.writePolicy_fixed (s : State) (v : Service) (p : Policy) (f : Response) :
    (s.writePolicy v p f).fixed = s.fixed := by
  simp [State.writePolicy]

@[simp] theorem State.serveSetPolicy_fixed (s : State) (v : Service) (f l a : Nat) (b c : Byte) :
    (s.serveSetPolicy v f l a b c).fixed = s.fixed := by
  unfold State.serveSetPolicy
  split <;> simp

@[simp] theorem State.serveBindPlatform_fixed (s : State) (v : Service) (b : Byte) (x : Token) :
    (s.serveBindPlatform v b x).fixed = s.fixed := by
  unfold State.serveBindPlatform
  split <;> simp

@[simp] theorem State.serveFinalize_fixed (s : State) (v : Service) : (s.serveFinalize v).fixed = s.fixed := by
  unfold State.serveFinalize
  split <;> simp

@[simp] theorem State.resumeOrdered_fixed (s : State) (j : WipeJob) : (s.resumeOrdered j).fixed = s.fixed := by
  unfold State.resumeOrdered
  dsimp only
  rw [State.resumeWipe_fixed]
  show ((s.answer .good (.wipe j.reason j.depth)).enterWiping).fixed = s.fixed
  simp

@[simp] theorem State.serveWipe_fixed (s : State) : (s.serveWipe).fixed = s.fixed := by
  unfold State.serveWipe
  (repeat' split) <;> simp

/-! ## Machine/Channel.lean -/

@[simp] theorem State.effect_fixed (s : State) (v : Service) (i : SlotIndex) (x : Secret) :
    (s.effect v i x).fixed = s.fixed := by
  unfold State.effect
  split <;> simp

@[simp] theorem State.afterGate_fixed (s : State) (v : Service) (i : SlotIndex) (x : Secret) :
    (s.afterGate v i x).fixed = s.fixed := by
  unfold State.afterGate
  split <;> simp

@[simp] theorem State.afterReset_fixed (s : State) (v : Service) (i : SlotIndex) (x : Secret) :
    (s.afterReset v i x).fixed = s.fixed := by
  unfold State.afterReset
  split <;> simp

@[simp] theorem State.effectWithoutGate_fixed (s : State) (r : Request) (v : Service) :
    (s.effectWithoutGate r v).fixed = s.fixed := by
  unfold State.effectWithoutGate
  split <;> simp

@[simp] theorem State.testRequest_fixed (s : State) (v : Service) : (s.testRequest v).fixed = s.fixed := by
  unfold State.testRequest
  (repeat' (first | split | (dsimp only; split))) <;> simp

@[simp] theorem State.enterService_fixed (s : State) (q : Waiting) : (s.enterService q).fixed = s.fixed := by
  unfold State.enterService
  split
  · simp
  · dsimp only
    rw [State.testRequest_fixed]
    rfl

@[simp] theorem State.channelTold_fixed (s : State) : (s.channelTold).fixed = s.fixed := by
  unfold State.channelTold
  (repeat' split) <;> simp

/-! ## Machine/PowerUp.lean: the enclosure policy and the end of a SELF TEST -/

@[simp] theorem State.applyOpening_fixed (s : State) : (s.applyOpening).fixed = s.fixed := by
  unfold State.applyOpening
  dsimp only
  (repeat' split) <;> simp

@[simp] theorem State.selfTestFailed_fixed (s : State) : (s.selfTestFailed).fixed = s.fixed := by
  unfold State.selfTestFailed
  rw [State.answerPlain_fixed, State.enterFault_fixed]
  rfl

@[simp] theorem State.backoffExpires_fixed (s : State) : (s.backoffExpires).fixed = s.fixed := rfl

/-! ## Machine/Link.lean: the parts that keep the control queue -/

@[simp] theorem State.acknowledge_fixed (s : State) (n : Notice) (st : Status) :
    (s.acknowledge n st).fixed = s.fixed := rfl

@[simp] theorem State.forwardNotice_fixed (s : State) (n : Notice) : (s.forwardNotice n).fixed = s.fixed := rfl

@[simp] theorem State.clearLatch_fixed (s : State) : s.clearLatch.fixed = s.fixed := rfl

@[simp] theorem State.wake_fixed (s : State) : (s.wake).fixed = s.fixed := by
  unfold State.wake
  dsimp only
  split <;> simp

@[simp] theorem State.handover_fixed (s : State) : (s.handover).fixed = s.fixed := by
  show (s.enter .opened).fixed = s.fixed
  simp

@[simp] theorem State.linkResetSession_fixed (s : State) : (s.linkResetSession).fixed = s.fixed := by
  unfold State.linkResetSession
  by_cases h : s.sessionEndReady = true
  · simp only [h, if_true]
    split <;> simp
  · simp only [h]
    split <;> simp

/-! ## Machine/Settle.lean: the ends of holds -/

@[simp] theorem State.endHold_fixed (s : State) : (s.endHold).fixed = s.fixed := by
  unfold State.endHold
  (repeat' split) <;> simp

@[simp] theorem State.proceed_fixed (s : State) : (s.proceed).fixed = s.fixed := by
  unfold State.proceed
  split <;> simp

/-! ## Machine/Lane.lean and Machine/Sectors.lean -/

@[simp] theorem State.admitAddressed_fixed (s : State) (t : Tag) (k : Kind) (v c : Nat) :
    (s.admitAddressed t k v c).fixed = s.fixed := by
  unfold State.admitAddressed
  split <;> simp

@[simp] theorem State.admitData_fixed (s : State) (t : Tag) (k : Kind) (c : Capsule) :
    (s.admitData t k c).fixed = s.fixed := by
  unfold State.admitData
  (repeat' split) <;> simp

@[simp] theorem State.receiveSector_fixed (s : State) (t : Tag) (g : Segment) (k : Nat) (x : Sector) :
    (s.receiveSector t g k x).fixed = s.fixed := by
  unfold State.receiveSector
  dsimp only
  split <;> simp

@[simp] theorem State.takeSector_fixed (s : State) (d : DataSector) : (s.takeSector d).fixed = s.fixed := by
  unfold State.takeSector
  (repeat' split) <;> simp

@[simp] theorem State.deliverSector_fixed (s : State) (t : Tag) (g : Segment) (k : Nat) (x : Sector) :
    (s.deliverSector t g k x).fixed = s.fixed := by
  unfold State.deliverSector
  split <;> rfl

@[simp] theorem State.routeReadSector_fixed (s : State) (t : Tag) (n k : Nat) (x : Sector) :
    (s.routeReadSector t n k x).fixed = s.fixed := by
  unfold State.routeReadSector
  (repeat' split) <;> simp

@[simp] theorem State.takeReadSector_fixed (s : State) (n k : Nat) (x : Sector) :
    (s.takeReadSector n k x).fixed = s.fixed := by
  unfold State.takeReadSector
  (repeat' split) <;> simp

@[simp] theorem State.passSector_fixed (s : State) (t : Tag) (g : Segment) (h : HeldSector) :
    (s.passSector t g h).fixed = s.fixed := by
  unfold State.passSector
  dsimp only
  split <;> simp

@[simp] theorem State.readSectorPasses_fixed (s : State) (n k : Nat) :
    (s.readSectorPasses n k).fixed = s.fixed := by
  unfold State.readSectorPasses
  (repeat' split) <;> simp

@[simp] theorem State.writeSectorGoes_fixed (s : State) (n : Nat) : (s.writeSectorGoes n).fixed = s.fixed := by
  unfold State.writeSectorGoes
  split <;> rfl

@[simp] theorem State.zeroSectorGoes_fixed (s : State) (n k : Nat) : (s.zeroSectorGoes n k).fixed = s.fixed := by
  unfold State.zeroSectorGoes
  (repeat' split) <;> rfl

@[simp] theorem State.segmentCompletion_fixed (s : State) (t : Tag) (g : Segment) (st : Status) (x : Sector) :
    (s.segmentCompletion t g st x).fixed = s.fixed := by
  unfold State.segmentCompletion
  dsimp only
  split <;> simp

@[simp] theorem State.routeCompletion_fixed (s : State) (n : Nat) (st : Status) (x : Sector) :
    (s.routeCompletion n st x).fixed = s.fixed := by
  unfold State.routeCompletion
  (repeat' split) <;> simp

@[simp] theorem State.takeCompletion_fixed (s : State) (n : Nat) (c : Byte) (x : Sector) :
    (s.takeCompletion n c x).fixed = s.fixed := by
  unfold State.takeCompletion
  split <;> simp

end Sys2Proof.Machine
end

