-- ==== Sys2Proof/Laws/Settle.lean ====
section
/-! SUPPORT. Laws/Settle.lean: the follow-ups of an event end. Every follow-up lowers the weight of the state, so `settle`
leaves none, and a follow-up may be made before `settle` without changing its result. -/

namespace Sys2Proof.Machine

/-! ## The weight of a state -/

/-- A stage in which the request in service waits for a drain, for its test to begin or for its response to go out. -/
def Stage.holds : Stage → Bool
  | .holdLock _ | .holdEndSession | .holdErase _ | .holdTest | .answering _ => true
  | _ => false

/-- The request in service is held. -/
def State.holding (s : State) : Bool := (s.serviceStage.map Stage.holds).getD false

/-- What the control channel still has to end. -/
def State.channelWeight (s : State) : Nat := 3 * s.holding.toNat + 2 * s.sessionEnd.toNat

/-- A bound on the follow-ups that are left. -/
def State.weight (s : State) : Nat :=
  13 * s.lane.length + 6 * s.dataLane.length + 6 * s.queue.length + s.channelWeight + s.heldPowerEnter.toNat

theorem State.channelWeight_le (s : State) : s.channelWeight ≤ 5 := by
  unfold State.channelWeight
  cases s.holding <;> cases s.sessionEnd <;> decide

theorem State.weight_le_bound (s : State) : s.weight ≤ s.settleBound := by
  have h := s.channelWeight_le
  have g : s.heldPowerEnter.toNat ≤ 1 := Bool.toNat_le _
  unfold State.weight State.settleBound
  omega

/-! ## The parts that `fixed` gathers -/

theorem State.lane_of_fixed {s t : State} (h : t.fixed = s.fixed) : t.lane = s.lane :=
  ((State.fixed_eq_iff t s).mp h).2.2.2.1

theorem State.dataLane_of_fixed {s t : State} (h : t.fixed = s.fixed) : t.dataLane = s.dataLane :=
  ((State.fixed_eq_iff t s).mp h).2.2.2.2.1

theorem State.queue_of_fixed {s t : State} (h : t.fixed = s.fixed) : t.queue = s.queue :=
  ((State.fixed_eq_iff t s).mp h).2.2.2.2.2.1

theorem State.held_of_fixed {s t : State} (h : t.fixed = s.fixed) : t.heldPowerEnter = s.heldPowerEnter :=
  ((State.fixed_eq_iff t s).mp h).2.2.2.2.2.2.1

theorem State.power_of_fixed {s t : State} (h : t.fixed = s.fixed) : t.power = s.power :=
  ((State.fixed_eq_iff t s).mp h).2.2.2.2.2.2.2

/-- An operation that keeps `fixed` changes the weight by what it changes in the channel. -/
theorem State.weight_of_fixed {s t : State} (h : t.fixed = s.fixed) :
    t.weight + s.channelWeight = s.weight + t.channelWeight := by
  unfold State.weight
  rw [State.lane_of_fixed h, State.dataLane_of_fixed h, State.queue_of_fixed h, State.held_of_fixed h]
  omega

/-! ## The channel under the operations that end holds -/

theorem State.channelWeight_congr {s t : State} (h : t.service = s.service) (g : t.sessionEnd = s.sessionEnd) :
    t.channelWeight = s.channelWeight := by
  unfold State.channelWeight State.holding State.serviceStage
  rw [h, g]

@[simp] theorem State.requestWrite_service (s : State) (c : Content) (w : List Waiter) :
    (s.requestWrite c w).service = s.service := by
  unfold State.requestWrite
  split <;> rfl

@[simp] theorem State.requestWrite_sessionEnd (s : State) (c : Content) (w : List Waiter) :
    (s.requestWrite c w).sessionEnd = s.sessionEnd := by
  unfold State.requestWrite
  split <;> rfl

@[simp] theorem State.enter_service (s : State) (a : Access) : (s.enter a).service = s.service := by
  unfold State.enter
  split <;> rfl

@[simp] theorem State.enter_sessionEnd (s : State) (a : Access) : (s.enter a).sessionEnd = s.sessionEnd := by
  unfold State.enter
  split <;> rfl

@[simp] theorem State.enterLocked_service (s : State) : s.enterLocked.service = s.service := by
  show (s.enter .locked).service = s.service
  simp

@[simp] theorem State.enterLocked_sessionEnd (s : State) : s.enterLocked.sessionEnd = s.sessionEnd := by
  show (s.enter .locked).sessionEnd = s.sessionEnd
  simp

/-- Answering empties the service place. -/
@[simp] theorem State.answer_service (s : State) (st : Status) (f : Response) : (s.answer st f).service = none := by
  unfold State.answer
  split
  · assumption
  · split <;> rfl

@[simp] theorem State.answer_sessionEnd (s : State) (st : Status) (f : Response) :
    (s.answer st f).sessionEnd = s.sessionEnd := by
  unfold State.answer
  split
  · rfl
  · split <;> rfl

@[simp] theorem State.answerPlain_service (s : State) (st : Status) : (s.answerPlain st).service = none :=
  s.answer_service st .noFields

@[simp] theorem State.answerPlain_sessionEnd (s : State) (st : Status) : (s.answerPlain st).sessionEnd = s.sessionEnd :=
  s.answer_sessionEnd st .noFields

theorem State.bothLockAll_service (rs : List RangeIndex) (s : State) : (s.bothLockAll rs).service = s.service := by
  unfold State.bothLockAll
  induction rs generalizing s with
  | nil => rfl
  | cons r rs ih => rw [List.foldl_cons, ih]; rfl

theorem State.bothLockAll_sessionEnd (rs : List RangeIndex) (s : State) :
    (s.bothLockAll rs).sessionEnd = s.sessionEnd := by
  unfold State.bothLockAll
  induction rs generalizing s with
  | nil => rfl
  | cons r rs ih => rw [List.foldl_cons, ih]; rfl

theorem State.lockOn_service (s : State) (v : View) (f : LockOn → Bool) : (s.lockOn v f).service = s.service := by
  unfold State.lockOn State.notifyIf
  split <;> simp [State.bothLockAll_service]

theorem State.lockOn_sessionEnd (s : State) (v : View) (f : LockOn → Bool) :
    (s.lockOn v f).sessionEnd = s.sessionEnd := by
  unfold State.lockOn State.notifyIf
  split <;> simp [State.bothLockAll_sessionEnd]

@[simp] theorem State.lowPowerLockOn_service (s : State) : s.lowPowerLockOn.service = s.service := by
  unfold State.lowPowerLockOn
  split <;> simp [State.lockOn_service]

@[simp] theorem State.lowPowerLockOn_sessionEnd (s : State) : s.lowPowerLockOn.sessionEnd = s.sessionEnd := by
  unfold State.lowPowerLockOn
  split <;> simp [State.lockOn_sessionEnd]

/-! ## Each follow-up lowers the weight -/

theorem State.completeSessionEnd_channel (s : State) (h : s.sessionEnd = true) :
    s.completeSessionEnd.channelWeight < s.channelWeight := by
  unfold State.completeSessionEnd
  dsimp only
  split <;> simp [State.channelWeight, State.holding, State.serviceStage, h]

/-- The end of a hold frees the service place or takes the request past its hold. -/
theorem State.endHold_channel (s : State) (h : s.holdReady = true) : s.endHold.channelWeight < s.channelWeight := by
  have hs : s.channelWeight = 3 + 2 * s.sessionEnd.toNat := by
    unfold State.holdReady at h
    unfold State.channelWeight State.holding
    split at h <;> simp_all [Stage.holds]
  rw [hs]
  unfold State.holdReady State.serviceStage at h
  unfold State.endHold
  cases hv : s.service with
  | none => simp [hv] at h
  | some v =>
    simp only [hv, Option.map_some] at h
    cases hg : v.stage <;> simp only [hg] at h <;> try contradiction
    · simp [hg, State.channelWeight, State.holding, State.serviceStage]
    · simp [hg, State.channelWeight, State.holding, State.serviceStage, State.eraseLayout, State.writeLayout,
        State.awaitWrite, Stage.holds]
    · dsimp only
      rw [hg]
      dsimp only
      split <;> simp [State.channelWeight, State.holding, State.serviceStage, Stage.holds]
    · simp [hg, State.channelWeight, State.holding, State.serviceStage]

theorem State.proceed_weight (s : State) (h : s.channelReady = true) : s.proceed.weight < s.weight := by
  have hf : s.proceed.weight + s.channelWeight = s.weight + s.proceed.channelWeight :=
    State.weight_of_fixed s.proceed_fixed
  have hc : s.proceed.channelWeight < s.channelWeight := by
    unfold State.proceed
    split
    · next g => exact s.completeSessionEnd_channel (by simp_all [State.sessionEndReady])
    · next g => exact s.endHold_channel (by simp_all [State.channelReady])
  omega

theorem State.applyPowerEnter_weight (s : State) (h : s.heldPowerEnter = true) :
    s.applyPowerEnter.weight < s.weight := by
  have hl (u : State) : u.lowPowerLockOn.weight = u.weight := by
    have h1 := State.weight_of_fixed u.lowPowerLockOn_fixed
    have h2 := State.channelWeight_congr u.lowPowerLockOn_service u.lowPowerLockOn_sessionEnd
    omega
  have hw : ({ s with heldPowerEnter := false } : State).weight + 1 = s.weight := by
    simp [State.weight, h, State.channelWeight, State.holding, State.serviceStage]
  unfold State.applyPowerEnter
  dsimp only
  split
  · show ({ s with heldPowerEnter := false } : State).weight < s.weight
    omega
  · show ({ s with heldPowerEnter := false } : State).weight < s.weight
    omega
  · show ({ s with heldPowerEnter := false } : State).lowPowerLockOn.weight < s.weight
    rw [hl]
    omega

theorem State.serveNext_weight {s t : State} (h : s.serveNext = some t) : t.weight < s.weight := by
  unfold State.serveNext at h
  split at h
  · next q qs _ hq =>
    obtain rfl := Option.some.inj h
    have h1 := State.weight_of_fixed (({ s with queue := qs } : State).enterService_fixed q)
    have h2 : ({ s with queue := qs } : State).weight + 6 = s.weight := by
      simp only [State.weight, hq, List.length_cons, State.channelWeight, State.holding, State.serviceStage]
      omega
    have h3 := (({ s with queue := qs } : State).enterService q).channelWeight_le
    omega
  · cases h

/-- Past the lanes, which it leaves, `t` holds at most one more waiting request than `s`. -/
def State.Took (s t : State) : Prop :=
  t.lane = s.lane ∧ t.dataLane = s.dataLane ∧ t.queue.length ≤ s.queue.length + 1

theorem State.took_of_fixed {s t : State} (h : t.fixed = s.fixed) : s.Took t :=
  ⟨State.lane_of_fixed h, State.dataLane_of_fixed h, by rw [State.queue_of_fixed h]; omega⟩

@[simp] theorem State.resetLink_fixed (s : State) : s.resetLink.fixed = s.orphanTable.flushChannel.fixed := by
  show (((s.orphanTable.flushChannel.linkResetSession.clearLatch).forwardNotice .linkReset).acknowledge
    .linkReset .good).fixed = _
  simp

theorem State.resetLink_took {s u : State} (h : u.fixed = s.fixed) : s.Took u.resetLink := by
  have g := u.resetLink_fixed
  have k := u.orphanTable_fixed.trans h
  refine ⟨?_, ?_, ?_⟩
  · rw [State.lane_of_fixed g, State.flushChannel_lane, State.lane_of_fixed k]
  · rw [State.dataLane_of_fixed g, State.flushChannel_dataLane, State.dataLane_of_fixed k]
  · rw [State.queue_of_fixed g, State.flushChannel_queue]
    exact Nat.zero_le _

theorem State.takeNotice_took (s : State) (n : Notice) : s.Took (s.takeNotice n) := by
  cases n
  · unfold State.takeNotice State.takeLinkReset
    dsimp only
    split
    · exact State.resetLink_took s.wake_fixed
    · exact State.resetLink_took rfl
  · unfold State.takeNotice State.takePowerEnter
    dsimp only
    split
    · exact State.took_of_fixed (by simp)
    · split <;> exact ⟨rfl, rfl, Nat.le_succ _⟩
  · unfold State.takeNotice State.takePowerExit
    dsimp only
    split
    · exact ⟨rfl, rfl, Nat.le_succ _⟩
    · split <;> exact State.took_of_fixed (by simp)

theorem State.admitControl_took (s : State) (t : Tag) (bytes : List Byte) : s.Took (s.admitControl t bytes) := by
  unfold State.admitControl
  split
  · exact State.took_of_fixed (by simp)
  · split
    · exact State.took_of_fixed (by simp)
    · exact ⟨rfl, rfl, by simp⟩

theorem State.takeTagged_took (s : State) (c : Capsule) : s.Took (s.takeTagged c) := by
  unfold State.takeTagged
  split
  · exact State.took_of_fixed (by simp)
  · split
    · unfold State.admitCapsule
      split <;> first | exact s.admitControl_took _ _ | exact State.took_of_fixed (by simp)
    all_goals exact State.took_of_fixed (by simp)

/-- Taking a capsule leaves the lanes and adds at most one request to the control queue. -/
theorem State.takeCapsule_took (s : State) (c : Capsule) : s.Took (s.takeCapsule c) := by
  unfold State.takeCapsule
  split
  · exact s.takeNotice_took _
  all_goals exact s.takeTagged_took c

theorem State.takeData_weight {s t : State} (h : s.takeData = some t) : t.weight < s.weight := by
  unfold State.takeData at h
  split at h
  · next d ds hd =>
    obtain rfl := Option.some.inj h
    have h1 := State.weight_of_fixed (({ s with dataLane := ds } : State).takeSector_fixed d)
    have h2 : ({ s with dataLane := ds } : State).weight + 6 = s.weight := by
      simp only [State.weight, hd, List.length_cons, State.channelWeight, State.holding, State.serviceStage]
      omega
    have h3 := (({ s with dataLane := ds } : State).takeSector d).channelWeight_le
    omega
  · cases h

theorem State.takeHead_weight {s t : State} (h : s.takeHead = some t) : t.weight < s.weight := by
  unfold State.takeHead at h
  split at h
  · next c cs hc =>
    split at h
    · cases h
    · obtain rfl := Option.some.inj h
      obtain ⟨h1, h2, h3⟩ := ({ s with lane := cs } : State).takeCapsule_took c
      have h4 := (({ s with lane := cs } : State).takeCapsule c).channelWeight_le
      have h5 : (({ s with lane := cs } : State).takeCapsule c).heldPowerEnter.toNat ≤ 1 := Bool.toNat_le _
      have h6 : ({ s with lane := cs } : State).queue = s.queue := rfl
      have h7 : ({ s with lane := cs } : State).dataLane = s.dataLane := rfl
      rw [h6] at h3
      rw [h7] at h2
      unfold State.weight
      rw [h1, h2, hc, List.length_cons]
      show 13 * cs.length + _ + _ + _ + _ < _
      omega
  · cases h

theorem State.takeFromLanes_weight {s t : State} (h : s.takeFromLanes = some t) : t.weight < s.weight := by
  have hd : s.drawn.weight = s.weight := rfl
  unfold State.takeFromLanes at h
  split at h
  · split at h
    · split at h
      · exact hd ▸ State.takeData_weight h
      · exact hd ▸ State.takeHead_weight h
    · cases h1 : s.takeData with
      | some u =>
        simp only [h1, HOrElse.hOrElse, OrElse.orElse, Option.orElse] at h
        obtain rfl := Option.some.inj h
        exact State.takeData_weight h1
      | none =>
        simp only [h1, HOrElse.hOrElse, OrElse.orElse, Option.orElse] at h
        exact State.takeHead_weight h
  · cases h

/-- Every follow-up lowers the weight. -/
theorem State.settleStep_weight {s t : State} (h : s.settleStep = some t) : t.weight < s.weight := by
  have hd : s.drawn.weight = s.weight := rfl
  unfold State.settleStep at h
  split at h
  · next hr =>
    split at h
    · next hp =>
      obtain rfl := Option.some.inj h
      rw [← hd]
      exact s.drawn.applyPowerEnter_weight (by simp_all [State.powerEnterReady])
    · split at h
      · obtain rfl := Option.some.inj h
        rw [← hd]
        exact s.drawn.proceed_weight hr
      · obtain rfl := Option.some.inj h
        exact s.proceed_weight hr
  · cases h1 : s.serveNext with
    | some u =>
      simp only [h1, HOrElse.hOrElse, OrElse.orElse, Option.orElse] at h
      obtain rfl := Option.some.inj h
      exact State.serveNext_weight h1
    | none =>
      cases h2 : s.enterIfReady with
      | some u =>
        simp only [h1, h2, HOrElse.hOrElse, OrElse.orElse, Option.orElse] at h
        obtain rfl := Option.some.inj h
        unfold State.enterIfReady at h2
        split at h2
        · obtain rfl := Option.some.inj h2
          exact s.applyPowerEnter_weight (by simp_all [State.powerEnterReady])
        · cases h2
      | none =>
        simp only [h1, h2, HOrElse.hOrElse, OrElse.orElse, Option.orElse] at h
        exact State.takeFromLanes_weight h

/-! ## Settling -/

/-- Enough follow-ups leave none. -/
theorem settleN_settled (n : Nat) (s : State) (h : s.weight ≤ n) : (settleN n s).settleStep = none := by
  induction n generalizing s with
  | zero =>
    cases hs : s.settleStep with
    | none => exact hs
    | some t => have := State.settleStep_weight hs; omega
  | succ n ih =>
    unfold settleN
    split
    · next t ht => exact ih t (by have := State.settleStep_weight ht; omega)
    · assumption

/-- Beyond the weight of the state the number of follow-ups allowed does not matter. -/
theorem settleN_enough (n m : Nat) (s : State) (hn : s.weight ≤ n) (hm : s.weight ≤ m) : settleN n s = settleN m s := by
  induction n generalizing m s with
  | zero =>
    have hs : s.settleStep = none := by
      cases hs : s.settleStep with
      | none => rfl
      | some t => have := State.settleStep_weight hs; omega
    cases m with
    | zero => rfl
    | succ m => simp [settleN, hs]
  | succ n ih =>
    cases hs : s.settleStep with
    | none =>
      cases m with
      | zero => simp [settleN, hs]
      | succ m => simp [settleN, hs]
    | some t =>
      have ht := State.settleStep_weight hs
      cases m with
      | zero => omega
      | succ m =>
        simp only [settleN, hs]
        exact ih m t (by omega) (by omega)

/-- After an event no follow-up is left. -/
theorem State.settle_settled (s : State) : s.settle.settleStep = none := settleN_settled _ s s.weight_le_bound

/-- Nothing follows where nothing is ready. -/
theorem State.settle_of_settled {s : State} (h : s.settleStep = none) : s.settle = s := by
  unfold State.settle
  cases s.settleBound with
  | zero => rfl
  | succ n => simp [settleN, h]

/-- The first follow-up, then the rest. -/
theorem State.settle_step {s t : State} (h : s.settleStep = some t) : s.settle = t.settle := by
  have ht := State.settleStep_weight h
  have hb := s.weight_le_bound
  unfold State.settle
  cases hn : s.settleBound with
  | zero => omega
  | succ n =>
    simp only [settleN, h]
    exact settleN_enough _ _ t (by omega) t.weight_le_bound

/-! ## Events -/

theorem State.owesAnswer_of_service {s : State} (h : s.service = none) : s.owesAnswer = false := by
  simp [State.owesAnswer, State.serviceStage, h]

/-- Where no response has yet to be handed out nothing comes before an event (R14). -/
theorem State.handedOut_of_owes {s : State} (h : s.owesAnswer = false) : s.handedOut = s := by
  unfold State.handedOut
  rw [h]
  rfl

/-- An event of the powered part where no response has yet to be handed out. -/
theorem State.event_of_owes {s : State} (h : s.owesAnswer = false) (hp : s.power ≠ .off) (f : State → State) :
    s.event f = (f s).settle := by
  unfold State.event
  rw [State.handedOut_of_owes h]
  unfold State.follow
  rw [if_neg hp]

/-- A LINK RESET is offered as any other capsule, where no response has yet to be handed out (R14). -/
theorem State.offerLinkReset_of_owes {s : State} (h : s.owesAnswer = false) :
    s.offerLinkReset = s.offer (.plain (Notice.code .linkReset) 0 []) := by
  unfold State.offer State.event
  rw [State.handedOut_of_owes h]
  rfl

end Sys2Proof.Machine
end

