-- ==== Sys2Proof/Laws/Calm.lean ====
section
/-! SUPPORT. Laws/Calm.lean: a command offered to a calm part is taken at once, a request admitted to one enters service at
the same event, and a completed write is told to the one requester that awaits it. -/

namespace Sys2Proof.Machine

/-! ## The parts of a calm state -/

theorem State.Calm.power {s : State} (h : s.Calm) : s.power = .running := h.1
theorem State.Calm.service {s : State} (h : s.Calm) : s.service = none := h.2.1
theorem State.Calm.queue {s : State} (h : s.Calm) : s.queue = [] := h.2.2.1
theorem State.Calm.lane {s : State} (h : s.Calm) : s.lane = [] := h.2.2.2.1
theorem State.Calm.dataLane {s : State} (h : s.Calm) : s.dataLane = [] := h.2.2.2.2.1
theorem State.Calm.sessionEnd {s : State} (h : s.Calm) : s.sessionEnd = false := h.2.2.2.2.2.1
theorem State.Calm.held {s : State} (h : s.Calm) : s.heldPowerEnter = false := h.2.2.2.2.2.2

/-! ## When nothing follows -/

/-- With no hold ready, the service place taken or nobody waiting, no POWER ENTER held and both lanes empty, nothing
follows. -/
theorem State.settleStep_none {s : State} (hr : s.channelReady = false) (hq : s.service ≠ none ∨ s.queue = [])
    (hh : s.heldPowerEnter = false) (hl : s.lane = []) (hd : s.dataLane = []) : s.settleStep = none := by
  have h1 : s.serveNext = none := by
    unfold State.serveNext
    rcases hq with hq | hq
    · cases hs : s.service with
      | none => exact absurd hs hq
      | some v => rfl
    · rw [hq]
      cases s.service <;> rfl
  have h2 : s.enterIfReady = none := by simp [State.enterIfReady, State.powerEnterReady, hh]
  have h3 : s.takeFromLanes = none := by
    simp [State.takeFromLanes, State.bothLanes, State.takeData, State.takeHead, hl, hd]
  simp [State.settleStep, hr, h1, h2, h3]

/-- A calm part is settled. -/
theorem State.Calm.settleStep {s : State} (h : s.Calm) : s.settleStep = none :=
  State.settleStep_none (by simp [State.channelReady, State.sessionEndReady, State.holdReady, State.serviceStage, h.sessionEnd,
    h.service]) (.inr h.queue) h.held h.lane h.dataLane

/-- An event that leaves the part calm has no follow-up. -/
theorem State.settle_calm {s : State} (h : s.Calm) : s.settle = s := State.settle_of_settled h.settleStep

/-- A request in service in a stage that is no hold, with nothing else waiting, has no follow-up. -/
theorem State.settle_serving {s : State} {v : Service} (hv : s.service = some v) (hg : v.stage.holds = false)
    (he : s.sessionEnd = false) (hh : s.heldPowerEnter = false) (hl : s.lane = []) (hd : s.dataLane = []) :
    s.settle = s := by
  refine State.settle_of_settled (State.settleStep_none ?_ (.inl (by simp [hv])) hh hl hd)
  have : s.holdReady = false := by
    unfold State.holdReady State.serviceStage
    rw [hv]
    cases hs : v.stage <;> simp_all [Stage.holds]
  simp [State.channelReady, State.sessionEndReady, he, this]

/-! ## Offering a capsule or a sector -/

/-- The capsule at the head of the lane is taken when the data lane holds nothing. -/
theorem State.takeFromLanes_capsule {s : State} {c : Capsule} {cs : List Capsule} (ht : s.lanesTake = true)
    (hd : s.dataLane = []) (hl : s.lane = c :: cs) (hb : s.blocked c = false) :
    s.takeFromLanes = some (({ s with lane := cs } : State).takeCapsule c) := by
  simp [State.takeFromLanes, State.bothLanes, State.takeData, State.takeHead, ht, hd, hl, hb]

/-- The sector at the head of the data lane is taken when the capsule lane holds nothing. -/
theorem State.takeFromLanes_sector {s : State} {d : DataSector} {ds : List DataSector} (ht : s.lanesTake = true)
    (hd : s.dataLane = d :: ds) (hl : s.lane = []) :
    s.takeFromLanes = some (({ s with dataLane := ds } : State).takeSector d) := by
  simp [State.takeFromLanes, State.bothLanes, State.takeData, State.takeHead, ht, hd, hl]

/-- A capsule that a calm part does not hold back is taken at once. -/
theorem State.offer_calm {s : State} (h : s.Calm) (c : Capsule) (hb : s.blocked c = false) :
    s.offer c = (s.takeCapsule c).settle := by
  have hs : { s with lane := ([] : List Capsule) } = s := by
    have hl := h.lane
    cases s
    simp only at hl
    rw [hl]
  have hp : s.power ≠ .off := by rw [h.power]; decide
  unfold State.offer
  rw [State.event_of_owes (State.owesAnswer_of_service h.service) hp]
  unfold State.queueCapsule
  rw [h.lane, List.nil_append]
  have ht : ({ s with lane := [c] } : State).takeFromLanes = some (s.takeCapsule c) := by
    rw [State.takeFromLanes_capsule (s := { s with lane := [c] }) (by
      simp [State.lanesTake, State.testRunning, State.serviceStage, h.power, h.service]) h.dataLane rfl hb]
    exact congrArg (fun u => some (State.takeCapsule u c)) hs
  refine State.settle_step ?_
  have h0 : ({ s with lane := [c] } : State).channelReady = false := by
    simp [State.channelReady, State.sessionEndReady, State.holdReady, State.serviceStage, h.sessionEnd, h.service]
  have h1 : ({ s with lane := [c] } : State).serveNext = none := by simp [State.serveNext, h.queue, h.service]
  have h2 : ({ s with lane := [c] } : State).enterIfReady = none := by
    simp [State.enterIfReady, State.powerEnterReady, h.held]
  simp [State.settleStep, h0, h1, h2, ht]

/-- A write sector offered to a calm part is taken at once. -/
theorem State.offerSector_calm {s : State} (h : s.Calm) (d : DataSector) :
    s.offerSector d = (s.takeSector d).settle := by
  have hs : { s with dataLane := ([] : List DataSector) } = s := by
    have hl := h.dataLane
    cases s
    simp only at hl
    rw [hl]
  have hp : s.power ≠ .off := by rw [h.power]; decide
  unfold State.offerSector
  rw [State.event_of_owes (State.owesAnswer_of_service h.service) hp]
  rw [h.dataLane, List.nil_append]
  have ht : ({ s with dataLane := [d] } : State).takeFromLanes = some (s.takeSector d) := by
    rw [State.takeFromLanes_sector (s := { s with dataLane := [d] }) (by
      simp [State.lanesTake, State.testRunning, State.serviceStage, h.power, h.service]) rfl h.lane]
    exact congrArg (fun u => some (State.takeSector u d)) hs
  refine State.settle_step ?_
  have h0 : ({ s with dataLane := [d] } : State).channelReady = false := by
    simp [State.channelReady, State.sessionEndReady, State.holdReady, State.serviceStage, h.sessionEnd, h.service]
  have h1 : ({ s with dataLane := [d] } : State).serveNext = none := by simp [State.serveNext, h.queue, h.service]
  have h2 : ({ s with dataLane := [d] } : State).enterIfReady = none := by
    simp [State.enterIfReady, State.powerEnterReady, h.held]
  simp [State.settleStep, h0, h1, h2, ht]

/-- The tag a byte names. -/
theorem tagOf_eq {b : Byte} {t : Tag} (h : b.toNat = t.val) : tagOf b = some t := by
  unfold tagOf
  have : b.toNat < 32 := h ▸ t.isLt
  rw [dif_pos this]
  congr 1
  exact Fin.ext h

/-- The range a byte names. -/
theorem rangeOf_eq {b : Byte} {r : RangeIndex} (h : b.toNat = r.val) : rangeOf b = some r := by
  unfold rangeOf
  have : b.toNat < 16 := h ▸ r.isLt
  rw [dif_pos this]
  congr 1
  exact Fin.ext h

/-- A capsule on a FREE tag is not held back. -/
theorem State.blocked_free {s : State} {c : Capsule} {t : Tag} (h : s.FreeTag c.tag t) : s.blocked c = false := by
  unfold State.blocked
  split
  · rfl
  all_goals
    simp only [tagOf_eq h.1, Option.any_some]
    rw [h.2]
    rfl

/-- A tagged capsule on a FREE tag is admitted at once. -/
theorem State.offer_free {s : State} (h : s.Calm) {c : Capsule} {t : Tag} (ht : s.FreeTag c.tag t)
    (hk : ∀ n, kindOfByte c.kind ≠ .notice n) : s.offer c = (s.admitCapsule t c).settle := by
  rw [State.offer_calm h c (State.blocked_free ht)]
  congr 1
  unfold State.takeCapsule
  split
  · exact absurd ‹_› (hk _)
  all_goals (unfold State.takeTagged; simp only [tagOf_eq ht.1, ht.2])

/-! ## Requests -/

/-- A CONTROL capsule on a FREE tag of a calm part outside DORMANT: its request enters service at the same event. -/
theorem State.offer_control {s : State} (h : s.Calm) {tag : Byte} {t : Tag} (ht : s.FreeTag tag t)
    (hd : s.access ≠ .dormant) (bytes : List Byte) :
    s.offer (.plain (Kind.code .control) tag bytes) =
      ((s.setEntry t Entry.ofControl).enterService ⟨t, bytes.length, keptEnvelope bytes⟩).settle := by
  rw [State.offer_free h (c := .plain (Kind.code .control) tag bytes) ht (by intro n; simp [Capsule.plain, Kind.code,
    kindOfByte])]
  have hk : kindOfByte (Capsule.plain (Kind.code .control) tag bytes).kind = .tagged .control := by
    simp [Capsule.plain, Kind.code, kindOfByte]
  unfold State.admitCapsule
  rw [hk]
  unfold State.admitControl
  rw [if_neg hd, if_neg (by simp [h.service])]
  refine State.settle_step ?_
  have hs : { s.setEntry t Entry.ofControl with queue := ([] : List Waiting) } = s.setEntry t Entry.ofControl := by
    have hl := h.queue
    cases s
    simp only at hl
    rw [hl]
    rfl
  simp only [h.queue, List.nil_append]
  have h0 : (({ s with queue := [⟨t, bytes.length, keptEnvelope bytes⟩] } : State).setEntry t
      Entry.ofControl).channelReady = false := by
    simp [State.channelReady, State.sessionEndReady, State.holdReady, State.serviceStage, h.sessionEnd, h.service]
  have h1 : (({ s with queue := [⟨t, bytes.length, keptEnvelope bytes⟩] } : State).setEntry t
      Entry.ofControl).serveNext =
      some ((s.setEntry t Entry.ofControl).enterService ⟨t, bytes.length, keptEnvelope bytes⟩) := by
    rw [← hs]
    simp [State.serveNext, h.service]
  change State.settleStep (({ s with queue := [⟨t, bytes.length, keptEnvelope bytes⟩] } : State).setEntry t
      Entry.ofControl) = _
  simp [State.settleStep, h0, h1]

end Sys2Proof.Machine
end

