-- ==== Sys2Proof/Laws/Gate.lean ====
section
/-! SUPPORT. Laws/Gate.lean: the course of a request through its tests and the gate in a calm part, one completed record write
after another. -/

namespace Sys2Proof.Machine

/-- The service place as a request enters it, in a stage. -/
def Service.entered (s : State) (t : Tag) (e : Envelope) (g : Stage) : Service :=
  ⟨t, e.request.code, e.request, e.auth, s.access, g, false, false⟩

/-- The count write of stage 4 (R100). -/
def State.countWrite (s : State) : RecordWrite :=
  ⟨.counters { s.copies.counters with attempts := bump s.copies.counters.attempts }, [.channel]⟩

/-- The state in which a request awaits its stage 4 write (R100). -/
def State.counting (s : State) (t : Tag) (e : Envelope) : State :=
  { s with
    table := s.table.set t Entry.ofControl
    service := some (Service.entered s t e .gateCount)
    writer := ⟨some s.countWrite, []⟩ }

/-- The state in which a request awaits its stage 7 write, the stage 4 write having landed (R104). -/
def State.resetting (s : State) (t : Tag) (e : Envelope) : State :=
  { s with
    table := s.table.set t Entry.ofControl
    service := some (Service.entered s t e .gateReset)
    writer := ⟨some ⟨.counters Counters.zero, [.channel]⟩, []⟩
    store := s.store.put s.countWrite.content
    copies := { s.copies with
      counters := { s.copies.counters with attempts := bump s.copies.counters.attempts } } }

/-- The state in which a request that passed the gate is taken to its kind test and effect, both counts 0 (R104). -/
def State.passed (s : State) (t : Tag) (e : Envelope) : State :=
  { s with
    table := s.table.set t Entry.ofControl
    service := some (Service.entered s t e .gateReset)
    writer := ⟨none, []⟩
    store := { s.store with counters := .intact Counters.zero }
    copies := { s.copies with counters := Counters.zero } }

/-- The writer, if idle, begins the next write. -/
def State.writerOn (s : State) : State := { s with writer := s.writer.beginNext }

/-- A request with a sound envelope enters service in a calm part outside DORMANT. -/
theorem State.offer_request {s : State} (h : s.Calm) {tag : Byte} {t : Tag} (ht : s.FreeTag tag t)
    (hd : s.access ≠ .dormant) {bytes : List Byte} {e : Envelope}
    (he : readEnvelope bytes.length (keptEnvelope bytes) = some e) :
    s.offer (.plain (Kind.code .control) tag bytes) =
      (({ s.setEntry t Entry.ofControl with service := some (Service.entered s t e .holdTest) } : State).testRequest
        (Service.entered s t e .holdTest)).settle := by
  rw [State.offer_control h ht hd]
  unfold State.enterService
  simp only [he]
  rfl

/-- A completed write that only the request in service awaits, with nothing queued behind it. -/
theorem exec_channelWrite {u : State} (hp : u.power = .running) (ho : u.owesAnswer = false) {c : Content}
    (hw : u.writer = ⟨some ⟨c, [.channel]⟩, []⟩) :
    exec .storeWriteCompletion u = .next ((u.landWrite ⟨c, [.channel]⟩).channelTold.writerOn.settle) := by
  have h : u.power ≠ .off := by rw [hp]; decide
  show Host.Outcome.next (State.event _ _) = _
  rw [State.event_of_owes ho h, hw]
  rfl

/-- A request that carries a block its entry does not ignore, past the access-state tests, goes to the gate (R98). -/
theorem State.testRequest_gate {u : State} {v : Service} {i : SlotIndex} {secret : Secret}
    (hv : v.auth = some (i, secret)) (hn : requestNeed v.request u.inStoreFault ≠ .ignored)
    (ha : accessRefusal u.access v.request = none) (hs : u.entryServes v.request true = true) :
    u.testRequest v = u.enterGate v i := by
  unfold State.testRequest
  simp only [hv, ha, Option.isSome_some, hs, if_true]
  cases hneed : requestNeed v.request u.inStoreFault with
  | ignored => exact absurd hneed hn
  | optional => rfl
  | required => rfl

/-- A request that is served without a gate (R98, section 7.9). -/
theorem State.testRequest_free {u : State} {v : Service}
    (hn : requestNeed v.request u.inStoreFault = .ignored ∨
      requestNeed v.request u.inStoreFault = .optional ∧ v.auth = none)
    (ha : accessRefusal u.access v.request = none) (hs : u.entryServes v.request v.auth.isSome = true) :
    u.testRequest v = u.effectWithoutGate v.request v := by
  unfold State.testRequest
  rcases hn with hn | ⟨hn, hv⟩
  · simp [hn, ha, hs]
  · rw [hv] at hs
    have hs' : u.entryServes v.request false = true := hs
    simp [hn, ha, hv, hs']

/-- Entering the gate with no refusal and an idle writer begins the stage 4 write (R99, R100). -/
theorem State.enterGate_counting {u : State} {v : Service} {i : SlotIndex} (hg : u.gateRefusal v.request i = none)
    (hw : u.writer = ⟨none, []⟩) :
    u.enterGate v i = { u with service := some { v with stage := .gateCount }, writer := ⟨some u.countWrite, []⟩ } := by
  unfold State.enterGate
  rw [hg]
  dsimp only
  unfold State.awaitWrite State.requestWrite
  rw [if_pos (by
    show u.writer.current = none ∧ u.writer.queue = []
    rw [hw]
    exact ⟨rfl, rfl⟩)]
  rfl

/-- A request whose block the gate lets through to stage 4 awaits the raised count's write (R99, R100). -/
theorem State.offer_counting {s : State} (h : s.Calm) {tag : Byte} {t : Tag} (ht : s.FreeTag tag t)
    {bytes : List Byte} {r : Request} {i : SlotIndex} {secret : Secret}
    (he : readEnvelope bytes.length (keptEnvelope bytes) = some ⟨r, some (i, secret)⟩)
    (hn : requestNeed r s.inStoreFault ≠ .ignored) (ha : accessRefusal s.access r = none)
    (hs : s.entryServes r true = true) (hg : s.gateRefusal r i = none) (hw : s.writer = ⟨none, []⟩) :
    s.offer (.plain (Kind.code .control) tag bytes) = s.counting t ⟨r, some (i, secret)⟩ := by
  have hd : s.access ≠ .dormant := by
    intro hd
    rw [hd] at ha
    cases ha
  rw [State.offer_request h ht hd he]
  let v : Service := Service.entered s t ⟨r, some (i, secret)⟩ .holdTest
  let u : State := { s.setEntry t Entry.ofControl with service := some v }
  have h1 : u.testRequest v = s.counting t ⟨r, some (i, secret)⟩ :=
    (State.testRequest_gate (u := u) (v := v) rfl hn ha hs).trans (State.enterGate_counting (u := u) (v := v) hg hw)
  show (u.testRequest v).settle = _
  rw [h1]
  exact State.settle_serving (v := Service.entered s t ⟨r, some (i, secret)⟩ .gateCount) rfl rfl h.sessionEnd h.held
    h.lane h.dataLane

/-- The stage 4 write lands and the secret verifies: both counts are reset and that write awaited (R101, R104). -/
theorem exec_counting_verified {s : State} (h : s.Calm) (t : Tag) (r : Request) (i : SlotIndex) (secret : Secret)
    (hv : (s.credential i).verifies secret = true) :
    exec .storeWriteCompletion (s.counting t ⟨r, some (i, secret)⟩) =
      .next (s.resetting t ⟨r, some (i, secret)⟩) := by
  rw [exec_channelWrite (u := s.counting t ⟨r, some (i, secret)⟩) h.power rfl rfl]
  congr 1
  let u : State := (s.counting t ⟨r, some (i, secret)⟩).landWrite s.countWrite
  let v : Service := Service.entered s t ⟨r, some (i, secret)⟩ .gateCount
  have h1 : u.channelTold = u.gateVerify v i secret := rfl
  have h2 : u.gateVerify v i secret = u.gatePassed v := by
    unfold State.gateVerify
    rw [if_pos (show (u.credential i).verifies secret = true from hv)]
  have h3 : (u.gatePassed v).writerOn = s.resetting t ⟨r, some (i, secret)⟩ := by
    unfold State.gatePassed State.awaitWrite State.requestWrite
    rw [if_pos ⟨rfl, rfl⟩]
    rfl
  show u.channelTold.writerOn.settle = _
  rw [h1, h2, h3]
  exact State.settle_serving (v := Service.entered s t ⟨r, some (i, secret)⟩ .gateReset) rfl rfl h.sessionEnd h.held
    h.lane h.dataLane

/-- The stage 7 write lands: the request goes on to the range 0 wrap or to its kind test (R104, R151). -/
theorem exec_resetting {s : State} (h : s.Calm) (t : Tag) (r : Request) (i : SlotIndex) (secret : Secret) :
    exec .storeWriteCompletion (s.resetting t ⟨r, some (i, secret)⟩) =
      .next (((s.passed t ⟨r, some (i, secret)⟩).afterReset
        (Service.entered s t ⟨r, some (i, secret)⟩ .gateReset) i secret).writerOn.settle) := by
  rw [exec_channelWrite (u := s.resetting t ⟨r, some (i, secret)⟩) h.power rfl rfl]
  rfl

/-- The whole gate: the request, and the two writes it makes (R98 to R104). -/
theorem gate_passes {s : State} (h : s.Calm) {tag : Byte} {t : Tag} (ht : s.FreeTag tag t)
    {bytes : List Byte} {r : Request} {i : SlotIndex} {secret : Secret}
    (he : readEnvelope bytes.length (keptEnvelope bytes) = some ⟨r, some (i, secret)⟩)
    (hn : requestNeed r s.inStoreFault ≠ .ignored) (ha : accessRefusal s.access r = none)
    (hs : s.entryServes r true = true) (hg : s.gateRefusal r i = none) (hw : s.writer = ⟨none, []⟩)
    (hv : (s.credential i).verifies secret = true) :
    ∃ a, s.offer (.plain (Kind.code .control) tag bytes) = a ∧
      runs a [.storeWriteCompletion, .storeWriteCompletion] =
        .next (((s.passed t ⟨r, some (i, secret)⟩).afterReset
          (Service.entered s t ⟨r, some (i, secret)⟩ .gateReset) i secret).writerOn.settle) := by
  refine ⟨_, State.offer_counting h ht he hn ha hs hg hw, ?_⟩
  simp only [runs, exec_counting_verified h t r i secret hv, exec_resetting h t r i secret]

end Sys2Proof.Machine
end

