-- ==== Sys2Proof/Laws/Operations.lean ====
section
/-! SUPPORT. Laws/Operations.lean: for each shared operation over the Command Table, the Key Slot Bank and the capsule lane, one
lemma that says once everything it does. -/

open Sys2Proof

namespace Sys2Proof.Machine

/-- Reading a vector after one place was written. -/
theorem vector_get_set {α n} (v : Vector α n) (i j : Fin n) (x : α) : (v.set i x)[j] = if i = j then x else v[j] := by
  rw [Fin.getElem_fin, Vector.getElem_set]
  by_cases h : i = j
  · subst h; simp
  · rw [if_neg h, if_neg (by intro h'; exact h (Fin.ext h'))]; rfl

/-- Reading a vector given by a function. -/
theorem vector_get_ofFn {α n} (f : Fin n → α) (i : Fin n) : (Vector.ofFn f)[i] = f i := by
  rw [Fin.getElem_fin, Vector.getElem_ofFn]

/-- Vectors that agree at every place are equal. -/
theorem vector_ext {α n} {u v : Vector α n} (h : ∀ i : Fin n, u[i] = v[i]) : u = v := by
  apply Vector.ext; intro i hi; exact h ⟨i, hi⟩

theorem vector_set_get (v : Vector Entry 32) (t : Tag) (e : Entry) : (v.set t e)[t] = e := by rw [Fin.getElem_fin, Vector.getElem_set_self]

/-- Releasing a segment lowers the use count of the slot it names (R63). -/
theorem State.releaseSegment_eq (s : State) (g : Segment) : s.releaseSegment g = { s with slots := Vector.ofFn fun r : RangeIndex => if g.slot = some r then s.slots[r].released else s.slots[r] } := by
  unfold State.releaseSegment
  cases hg : g.slot with
  | none =>
    have : (Vector.ofFn fun r : RangeIndex => if (none : Option RangeIndex) = some r then s.slots[r].released else s.slots[r]) = s.slots := by
      apply vector_ext; intro i; rw [vector_get_ofFn]; simp
    rw [this]
  | some q =>
    show { s with slots := s.slots.set q s.slots[q].released } = _
    congr 1
    apply vector_ext; intro i; rw [vector_get_ofFn, vector_get_set]
    by_cases h : q = i
    · subst h; simp
    · simp [h]

/-- Releasing segments lowers each use count once for each segment that names the slot (R63). -/
theorem State.releaseSegments_eq (gs : List Segment) (s : State) : gs.foldl State.releaseSegment s = { s with slots := Vector.ofFn fun r : RangeIndex => (KeySlot.released^[(gs.filter fun g => decide (g.slot = some r)).length]) s.slots[r] } := by
  induction gs generalizing s with
  | nil =>
    simp
  | cons g gs ih =>
    rw [List.foldl_cons, ih, State.releaseSegment_eq]
    simp only [vector_get_ofFn]
    congr 1
    apply vector_ext; intro i; rw [vector_get_ofFn, vector_get_ofFn]
    by_cases h : g.slot = some i
    · simp [h, Function.iterate_succ_apply]
    · simp [h]

/-- Releasing a FORWARDED entry lowers the use counts by its unfinished segments (R52, R53). -/
theorem State.releaseEntry_eq (s : State) (t : Tag) (h : s.table[t].state = .forwarded) : s.releaseEntry t = { s with slots := Vector.ofFn fun r : RangeIndex => (KeySlot.released^[s.table[t].usesOf r]) s.slots[r] } := by
  unfold State.releaseEntry
  rw [State.releaseSegments_eq]
  congr 1
  apply vector_ext; intro i; rw [vector_get_ofFn, vector_get_ofFn]
  unfold Entry.usesOf
  rw [if_pos h, List.filter_filter]
  congr 2
  apply List.filter_congr
  intro g _; exact Bool.and_comm _ _

theorem State.released_of_not_forwarded (s : State) (t : Tag) (h : s.table[t].state ≠ .forwarded) : (Vector.ofFn fun r : RangeIndex => (KeySlot.released^[s.table[t].usesOf r]) s.slots[r]) = s.slots := by
  apply vector_ext; intro i; rw [vector_get_ofFn]; unfold Entry.usesOf; rw [if_neg h]; rfl

/-- What a link reset does to one entry (R53). -/
theorem State.orphanEntry_eq (s : State) (t : Tag) : s.orphanEntry t = { s with table := s.table.set t s.table[t].afterLinkReset, slots := Vector.ofFn fun r : RangeIndex => (KeySlot.released^[s.table[t].usesOf r]) s.slots[r] } := by
  unfold State.orphanEntry Entry.afterLinkReset
  cases h : s.table[t].state
  · dsimp only
    rw [State.released_of_not_forwarded s t (by rw [h]; simp)]
    have : s.table.set t s.table[t] = s.table := by apply vector_ext; intro i; rw [vector_get_set]; split <;> simp_all
    rw [this]
  · dsimp only
    rw [State.releaseEntry_eq s t h]
    unfold State.closeEntry State.setEntry
    dsimp only
    rw [vector_set_get]
    have e : ∀ x, (s.table[t].struck x).allFinished = (s.table[t].segments.all fun g => g.status.isSome || g.arrived.isSome) := by
      intro x; unfold Entry.allFinished Entry.struck Segment.struck
      simp only [List.all_map]
      congr 1; funext g; cases hs : g.status <;> simp [hs]
    rw [e]
    split
    · have : (s.table[t].struck .orphaned).state = .orphaned := rfl
      rw [this]; dsimp only
      unfold State.freeEntry State.setEntry; dsimp only; rw [Vector.set_set]
    · rfl
  · dsimp only
    rw [State.released_of_not_forwarded s t (by rw [h]; simp)]
    rfl
  · dsimp only
    rw [State.released_of_not_forwarded s t (by rw [h]; simp)]
    rfl
  · dsimp only
    rw [State.released_of_not_forwarded s t (by rw [h]; simp)]
    have : s.table.set t s.table[t] = s.table := by apply vector_ext; intro i; rw [vector_get_set]; split <;> simp_all
    rw [this]

theorem State.slots_table_congr {s : State} {a b c d} (h1 : a = b) (h2 : c = d) : ({ s with slots := a, table := c } : State) = { s with slots := b, table := d } := by subst h1 h2; rfl

theorem KeySlot.released_iterate_add (a b c : Nat) (k : KeySlot) (h : c = b) : KeySlot.released^[c] (KeySlot.released^[a] k) = KeySlot.released^[a + b] k := by subst h; rw [Nat.add_comm, Function.iterate_add_apply]

theorem State.orphanEntries_eq (l : List Tag) (hn : l.Nodup) (s : State) : l.foldl State.orphanEntry s = { s with table := Vector.ofFn fun t : Tag => if t ∈ l then s.table[t].afterLinkReset else s.table[t], slots := Vector.ofFn fun r : RangeIndex => (KeySlot.released^[(l.map fun t => s.table[t].usesOf r).sum]) s.slots[r] } := by
  induction l generalizing s with
  | nil =>
    have e1 : (Vector.ofFn fun r : RangeIndex => s.slots[r]) = s.slots := by apply vector_ext; intro i; rw [vector_get_ofFn]
    have e2 : (Vector.ofFn fun r : Tag => s.table[r]) = s.table := by apply vector_ext; intro i; rw [vector_get_ofFn]
    simp only [List.foldl_nil, List.not_mem_nil, if_false, List.map_nil, List.sum_nil, Function.iterate_zero, id, e1, e2]
  | cons t l ih =>
    obtain ⟨hnt, hn⟩ := List.nodup_cons.mp hn
    rw [List.foldl_cons, ih hn, State.orphanEntry_eq]
    dsimp only
    refine State.slots_table_congr ?_ ?_
    · apply vector_ext; intro i; simp only [vector_get_ofFn, List.map_cons, List.sum_cons]
      have : l.map (fun x => ((s.table.set t s.table[t].afterLinkReset)[x]).usesOf i) = l.map fun x => s.table[x].usesOf i := by
        apply List.map_congr_left; intro x hx; rw [vector_get_set, if_neg (by rintro rfl; exact hnt hx)]
      exact KeySlot.released_iterate_add _ _ _ _ (congrArg List.sum this)
    · apply vector_ext; intro i; rw [vector_get_ofFn, vector_get_ofFn, vector_get_set]
      by_cases h : t = i
      · subst h; simp [hnt]
      · have h' : ¬ i = t := fun e => h e.symm
        simp [h, h']

/-- What a link reset does to the Command Table and the use counts (R53). -/
theorem State.orphanTable_eq (s : State) : s.orphanTable = { s with table := Vector.ofFn fun t : Tag => s.table[t].afterLinkReset, slots := Vector.ofFn fun r : RangeIndex => (KeySlot.released^[s.usesOf r]) s.slots[r], readHeld := [], writeHeld := [] } := by
  unfold State.orphanTable
  rw [State.orphanEntries_eq allTags (List.nodup_finRange 32)]
  unfold State.dropHeldSectors
  dsimp only
  congr 1

/-- Both-locking a range (R66). -/
theorem State.bothLock_eq (s : State) (r : RangeIndex) : s.bothLock r = { s with locks := s.locks.set r Locks.both, slots := s.slots.set r s.slots[r].bothLocked } := rfl

theorem KeySlot.bothLocked_bothLocked (k : KeySlot) : k.bothLocked.bothLocked = k.bothLocked := by
  unfold KeySlot.bothLocked
  cases hk : k.state with
  | empty => simp [hk]
  | draining => simp [hk]
  | loaded => by_cases h : k.uses = 0 <;> simp [h, KeySlot.empty]

/-- Both-locking a list of ranges (R66). -/
theorem State.bothLockAll_eq (l : List RangeIndex) (s : State) : s.bothLockAll l = { s with locks := s.locksBoth fun r => decide (r ∈ l), slots := s.slotsBoth fun r => decide (r ∈ l) } := by
  unfold State.bothLockAll
  induction l generalizing s with
  | nil =>
    have e1 : (s.locksBoth fun r => decide (r ∈ ([] : List RangeIndex))) = s.locks := by apply vector_ext; intro i; unfold State.locksBoth; rw [vector_get_ofFn]; simp
    have e2 : (s.slotsBoth fun r => decide (r ∈ ([] : List RangeIndex))) = s.slots := by apply vector_ext; intro i; unfold State.slotsBoth; rw [vector_get_ofFn]; simp
    rw [e1, e2]; rfl
  | cons r l ih =>
    rw [List.foldl_cons, ih, State.bothLock_eq]
    dsimp only
    congr 1
    · apply vector_ext; intro i; unfold State.slotsBoth; rw [vector_get_ofFn, vector_get_ofFn]; dsimp only; rw [vector_get_set]
      by_cases h : r = i
      · subst h; by_cases h2 : r ∈ l <;> simp [h2, KeySlot.bothLocked_bothLocked]
      · have h' : ¬ i = r := fun e => h e.symm
        simp [h, h']
    · apply vector_ext; intro i; unfold State.locksBoth; rw [vector_get_ofFn, vector_get_ofFn]; dsimp only; rw [vector_get_set]
      by_cases h : r = i
      · subst h; simp
      · have h' : ¬ i = r := fun e => h e.symm
        simp [h, h']

/-- A lock-on event gives `State.afterLockOn` (R69, R70). -/
theorem State.lockOn_eq (s : State) (v : View) (f : LockOn → Bool) : s.lockOn v f = s.afterLockOn v f := by
  unfold State.lockOn
  rw [State.bothLockAll_eq]
  unfold State.afterLockOn State.notifyIf State.lockOnRanges
  have e1 : (s.locksBoth fun r => decide (r ∈ allRanges.filter fun r => v.shows r && f s.copies.layout[r].lockOn)) = s.locksBoth fun r => v.shows r && f s.copies.layout[r].lockOn := by
    congr 1; funext r; simp [allRanges]
  have e2 : (s.slotsBoth fun r => decide (r ∈ allRanges.filter fun r => v.shows r && f s.copies.layout[r].lockOn)) = s.slotsBoth fun r => v.shows r && f s.copies.layout[r].lockOn := by
    congr 1; funext r; simp [allRanges]
  have e3 : ((allRanges.filter fun r => v.shows r && f s.copies.layout[r].lockOn).any fun r => decide (s.locks[r] ≠ Locks.both)) = allRanges.any fun r => v.shows r && f s.copies.layout[r].lockOn && decide (s.locks[r] ≠ Locks.both) := by
    rw [List.any_filter]
  rw [e1, e2, e3]
  cases allRanges.any fun r => v.shows r && f s.copies.layout[r].lockOn && decide (s.locks[r] ≠ Locks.both)
  · simp
  · simp [State.notify, NoticeSet.add]

/-- Outside DORMANT the load of an UNLOCK is followed by no LOW_POWER lock-on. -/
theorem State.asleepLockOn_awake {s : State} (h : s.access ≠ .dormant) : s.asleepLockOn = s := if_neg h

/-- In DORMANT the load of an UNLOCK is followed by the LOW_POWER lock-on, on the view of the session to resume (R174, R181). -/
theorem State.asleepLockOn_dormant {s : State} {v : View} (h : s.access = .dormant)
    (hv : s.resume = some .opened ∧ s.view = some v ∨ s.resume = some .staged ∧ s.pendingView = some v) :
    s.asleepLockOn = s.afterLockOn v LockOn.lowPower := by
  rw [← State.lockOn_eq]
  unfold State.asleepLockOn State.lowPowerLockOn State.sessionView State.sessionAccess
  rw [if_pos h, if_pos h]
  rcases hv with ⟨h1, h2⟩ | ⟨h1, h2⟩ <;> simp [h1, h2]

/-- Loading the keys of a list for distinct ranges (R64, R65). -/
theorem State.loadRanges_eq (ks : List RangeKey) (s : State) (h : (ks.map RangeKey.range).Nodup) :
    s.loadRanges ks = { s with slots := s.slotsWith ks, locks := s.locksWith ks fun r => s.locks[r] } := by
  unfold State.loadRanges
  induction ks generalizing s with
  | nil =>
    have e1 : s.slotsWith [] = s.slots := vector_ext fun i => vector_get_ofFn _ i
    have e2 : (s.locksWith [] fun r => s.locks[r]) = s.locks := vector_ext fun i => vector_get_ofFn _ i
    rw [e1, e2]; rfl
  | cons k ks ih =>
    rw [List.map_cons, List.nodup_cons] at h
    have none_of (i : RangeIndex) (hi : k.range = i) : keyFor ks i = none := by
      subst hi
      exact List.find?_eq_none.mpr fun q hq => by
        simpa using fun e : q.range = k.range => h.1 (e ▸ List.mem_map_of_mem hq)
    have cons_of (i : RangeIndex) : keyFor (k :: ks) i = if k.range = i then some k else keyFor ks i := by
      unfold keyFor
      rw [List.find?_cons]
      by_cases hi : k.range = i <;> simp [hi]
    rw [List.foldl_cons, ih _ h.2]
    unfold State.loadRange State.setSlot State.setLocks
    dsimp only
    congr 1
    all_goals
      refine vector_ext fun i => ?_
      simp only [State.slotsWith, State.locksWith, vector_get_ofFn, vector_get_set, cons_of]
      by_cases hi : k.range = i
      · simp [hi, none_of i hi, KeySlot.loadedWith]
      · simp [hi]

/-- What a content is when it is a wipe's first write (R147). -/
theorem Store.firstPurge_iff (st : Store) (c : Content) :
    st.firstPurge c = true ↔ ∃ x y, c = .wipe x ∧ x.phase = .purge ∧ st.wipe = .intact y ∧ y.phase = .none := by
  unfold Store.firstPurge
  cases c <;> simp
  cases st.wipe <;> simp

/-- Everything a power loss can leave of the store (R90, R181). -/
theorem State.storeAfterLoss_cases (s : State) (cut : WriteCut) :
    s.storeAfterLoss cut = s.store ∨
      ∃ w, s.writer.current = some w ∧
        (cut = .newContent ∧ s.storeAfterLoss cut = s.store.put w.content ∨
          cut = .torn ∧ (s.store.firstPurge w.content = true → Config.firstPurgeTears = true) ∧
            s.storeAfterLoss cut = s.store.tear w.content.record) := by
  unfold State.storeAfterLoss
  split
  · exact .inl rfl
  · rename_i w hw
    cases cut
    · exact .inl rfl
    · exact .inr ⟨w, hw, .inl ⟨rfl, rfl⟩⟩
    · dsimp only
      split
      · exact .inl rfl
      · rename_i h
        exact .inr ⟨w, hw, .inr ⟨rfl, by simpa using h, rfl⟩⟩

/-- A notice offered to a calm part is taken (R55). -/
theorem State.offer_notice {s : State} (h : s.Calm) (n : Notice) : s.offer (.plain n.code 0 []) = (s.takeNotice n).settle := by
  have e : kindOfByte (Capsule.plain n.code 0 []).kind = .notice n := by cases n <;> rfl
  rw [State.offer_calm h _ (by unfold State.blocked; rw [e])]
  unfold State.takeCapsule; rw [e]

/-- Binding the segments of a capsule raises the use counts, adds their sub-tags and sends their commands (R30). -/
theorem State.bindSegments_eq (k : Kind) (gs : List Segment) (s : State) :
   gs.foldl (State.bindSegment k) s = { s with slots := s.boundSlots gs, outstanding := gs.foldl (fun o g => insertNat g.subTag o) s.outstanding, downstream := s.downstream ++ gs.map fun g => .command k g.subTag g.lba g.count } := by
  induction gs generalizing s with
  | nil =>
    have : s.boundSlots [] = s.slots := by
      apply Vector.ext; intro i hi; simp [State.boundSlots]
    simp [this]
  | cons g gs ih =>
    rw [List.foldl_cons, ih]
    cases hg : g.slot with
    | none =>
      simp only [State.bindSegment, hg, State.sendDown]
      congr 1
      · apply Vector.ext; intro i hi; simp [State.boundSlots, hg]
      · simp
    | some r =>
      simp only [State.bindSegment, hg, State.sendDown, State.raiseUse, State.setSlot]
      congr 1
      · apply Vector.ext; intro i hi
        simp only [State.boundSlots, Vector.getElem_ofFn, Fin.getElem_fin]
        simp only [Vector.getElem_set]
        by_cases hri : r.val = i
        · subst hri; simp [hg]; omega
        · have : ¬ (r = ⟨i,hi⟩) := fun h => hri (by rw [h])
          simp [hri, hg, this]
      · simp

/-- The bind stage gives `State.bound` (R30). -/
theorem State.bind_eq (s : State) (t k v c gs cap) : s.bind t k v c gs cap = s.bound t k v c gs cap := by
  unfold State.bind State.bound
  rw [State.bindSegments_eq]; rfl

theorem State.Calm.addressed {s : State} (h : s.Calm) (t k v c r) : (s.addressed t k v c r).Calm := by cases r <;> exact h

/-- READ, WRITE and DEALLOCATE past the access-state test give `State.addressed` (R23). -/
theorem State.admitAddressed_eq (s : State) (t : Tag) (k v c) : s.admitAddressed t k v c = s.addressed t k v c (s.resolve k v c) := by
  unfold State.admitAddressed State.addressed
  cases s.resolve k v c with
  | refused st => rfl
  | pieces ps => dsimp only; rw [State.bind_eq]

/-- In service nothing is refused by the access state (R23). -/
theorem State.dataRefusal_none {s : State} (h : s.Calm) (hs : s.InService) : s.dataRefusal = none := by
  unfold State.dataRefusal; rw [h.held]
  rcases hs with h | h | h | h <;> rw [h] <;> rfl

/-- A data capsule offered on a FREE tag of a calm part is admitted. -/
theorem State.offer_data {s : State} (h : s.Calm) {c : Capsule} {t : Tag} {k : Kind} (ht : s.FreeTag c.tag t) (hk : kindOfByte c.kind = .tagged k) (hc : k ≠ .control) : s.offer c = (s.admitData t k c).settle := by
  rw [State.offer_free h ht (by intro n; rw [hk]; exact fun h => nomatch h)]
  unfold State.admitCapsule
  rw [hk]
  cases k <;> first | rfl | exact absurd rfl hc

/-- A capsule-lane command offers its capsule; LINK RESET where no response has yet to be handed out (R14). -/
theorem exec_capsule {c : Instr} {cap : Capsule} (h : c.capsule? = some cap) {s : State} (ho : s.owesAnswer = false) :
    exec c s = .next (s.offer cap) := by
  cases c <;> simp only [Instr.capsule?, Option.some.injEq, reduceCtorEq] at h <;> subst h <;>
    first | rfl | exact congrArg Host.Outcome.next (State.offerLinkReset_of_owes ho)

/-- A capsule offered behind one that the lane does not take stays on the lane (R42, R47). -/
theorem State.offer_blocked {s : State} {cap head : Capsule} {rest} (hl : s.lane ++ [cap] = head :: rest) (h : ({ s with lane := [] } : State).Calm) (hb : s.blocked head = true) : s.offer cap = { s with lane := s.lane ++ [cap] } := by
  have hp : s.power ≠ .off := by have := h.power; simp only at this; rw [this]; decide
  unfold State.offer
  rw [State.event_of_owes (State.owesAnswer_of_service (by exact h.service)) hp]
  unfold State.queueCapsule
  refine State.settle_of_settled ?_
  have a := h.service; have b := h.queue; have d := h.dataLane; have e := h.sessionEnd; have f := h.held
  simp only at a b d e f
  have h0 : ({ s with lane := s.lane ++ [cap] } : State).channelReady = false := by
    simp [State.channelReady, State.sessionEndReady, State.holdReady, State.serviceStage, a, e]
  have h1 : ({ s with lane := s.lane ++ [cap] } : State).serveNext = none := by simp [State.serveNext, a, b]
  have h2 : ({ s with lane := s.lane ++ [cap] } : State).enterIfReady = none := by
    simp [State.enterIfReady, State.powerEnterReady, f]
  have h3 : ({ s with lane := s.lane ++ [cap] } : State).takeFromLanes = none := by
    have hb' : ({ s with lane := s.lane ++ [cap] } : State).blocked head = true := hb
    simp [State.takeFromLanes, State.bothLanes, State.takeData, State.takeHead, d, hl] at hb' ⊢
    simp [hb']
  simp [State.settleStep, h0, h1, h2, h3]

/-- A capsule offered while a POWER ENTER is held for drain is taken (R42, R170). -/
theorem State.offer_held {s : State} (h : ({ s with heldPowerEnter := false } : State).Calm) (hn : s.noneForwarded = false) (c : Capsule) (hb : s.blocked c = false) : s.offer c = (s.takeCapsule c).settle := by
  have a := h.power; have b := h.service; have q := h.queue; have c' := h.lane; have d := h.dataLane; have e := h.sessionEnd
  simp only at a b q c' d e
  have hp : s.power ≠ .off := by rw [a]; decide
  have hs : { s with lane := ([] : List Capsule) } = s := by
    cases s
    simp only at c'
    rw [c']
  unfold State.offer
  rw [State.event_of_owes (State.owesAnswer_of_service b) hp]
  unfold State.queueCapsule
  rw [c', List.nil_append]
  have ht : ({ s with lane := [c] } : State).takeFromLanes = some (s.takeCapsule c) := by
    rw [State.takeFromLanes_capsule (s := { s with lane := [c] }) (by
      simp [State.lanesTake, State.testRunning, State.serviceStage, a, b]) d rfl hb]
    exact congrArg (fun u => some (State.takeCapsule u c)) hs
  refine State.settle_step ?_
  have h0 : ({ s with lane := [c] } : State).channelReady = false := by
    simp [State.channelReady, State.sessionEndReady, State.holdReady, State.serviceStage, b, e]
  have h1 : ({ s with lane := [c] } : State).serveNext = none := by simp [State.serveNext, b, q]
  have h2 : ({ s with lane := [c] } : State).enterIfReady = none := by
    have : ({ s with lane := [c] } : State).noneForwarded = false := hn
    simp [State.enterIfReady, State.powerEnterReady, this]
  simp [State.settleStep, h0, h1, h2, ht]

/-- While a POWER ENTER is held for drain nothing follows an event. -/
theorem State.settle_held {s : State} (h : ({ s with heldPowerEnter := false } : State).Calm) (hn : s.noneForwarded = false) : s.settle = s := by
  have a := h.power; have b := h.service; have q := h.queue; have c' := h.lane; have d := h.dataLane; have e := h.sessionEnd
  simp only at a b q c' d e
  refine State.settle_of_settled ?_
  have h0 : s.channelReady = false := by
    simp [State.channelReady, State.sessionEndReady, State.holdReady, State.serviceStage, b, e]
  have h1 : s.serveNext = none := by simp [State.serveNext, b, q]
  have h2 : s.enterIfReady = none := by
    simp [State.enterIfReady, State.powerEnterReady, hn]
  have h3 : s.takeFromLanes = none := by
    simp [State.takeFromLanes, State.bothLanes, State.takeData, State.takeHead, c', d]
  simp [State.settleStep, h0, h1, h2, h3]

/-! ## Downstream completions that end an entry (R37, R38, R50) -/

/-- The tag that a sub-tag of the Admission Unit belongs to. -/
theorem tagOfSubTag_eq {n : Nat} {t : Tag} (h : n / 2 = t.val) : tagOfSubTag n = some t := by
  unfold tagOfSubTag
  rw [dif_pos (h ▸ t.isLt)]
  exact congrArg some (Fin.ext h)

theorem Entry.segment?_subTag {e : Entry} {n : Nat} {g : Segment} (h : e.segment? n = some g) : g.subTag = n := by
  simpa [Entry.segment?] using List.find?_some h

/-- With the status that arrived for its segment, an entry finishes that segment (R37, R50). -/
theorem Entry.withFinished_eq (e : Entry) (n : Nat) (st : Status) (x : Sector) :
    ((e.updateSegment n (Segment.arrive st)).keepIdentity x).updateSegment n Segment.finished = e.withFinished n st x := by
  unfold Entry.keepIdentity Entry.updateSegment Entry.withFinished
  dsimp only
  split <;>
    (congr 1; rw [List.map_map]; apply List.map_congr_left; intro u _; simp only [Function.comp];
     by_cases hh : u.subTag = n <;> simp [hh, Segment.arrive, Segment.finished])

/-- An entry whose other segments have finished finishes with the segment of a sub-tag (R37). -/
theorem Entry.withFinished_all {e : Entry} {n st x} (h : ∀ u ∈ e.segments, u.subTag ≠ n → u.status.isSome = true) :
    (e.withFinished n st x).allFinished = true := by
  unfold Entry.allFinished Entry.withFinished
  simp only [List.all_map, List.all_eq_true, Function.comp]
  intro u hu
  split
  · rfl
  · next hn => exact h u hu hn

/-- The status of a back end's code (R50). -/
theorem backEndStatus_eq {code : Byte} {st : Status}
    (h : (code = 0 ∧ st = .good) ∨ (code = 5 ∧ st = .aborted) ∨ (code ≠ 0 ∧ code ≠ 5 ∧ st = .mediaError)) :
    backEndStatus code = st := by
  unfold backEndStatus
  rcases h with ⟨rfl, rfl⟩ | ⟨rfl, rfl⟩ | ⟨h1, h2, rfl⟩
  · rfl
  · rfl
  · rw [show Status.good.code = 0 from rfl, show Status.aborted.code = 5 from rfl, if_neg h1, if_neg h2]

/-- A segment whose status has arrived finishes in a FORWARDED entry: the entry as `Entry.withFinished` gives it, its use count
released and its held write sectors dropped; then the entry is looked at (R37, R63). -/
theorem State.segmentCompletion_eq {s : State} {n : Nat} {t : Tag} {g : Segment} {st : Status} {x : Sector}
    (hg : s.table[t].segment? n = some g) (hf : s.table[t].state = .forwarded) (hu : g.unpassed = 0) :
    s.segmentCompletion t g st x =
      ({ s with
        table := s.table.set t (s.table[t].withFinished n st x)
        slots := s.slotsReleased g
        writeHeld := s.writeHeld.filter fun h => decide (h.subTag ≠ n) } : State).closeEntry t := by
  have hn := Entry.segment?_subTag hg
  unfold State.segmentCompletion
  dsimp only
  rw [if_neg (by rintro ⟨_, h⟩; omega)]
  unfold State.finishSegment
  dsimp only
  have e1 : (s.setEntry t ((s.table[t].updateSegment g.subTag (Segment.arrive st)).keepIdentity x)).table[t].state =
      .forwarded := by
    show (s.table.set t _)[t].state = _
    rw [vector_set_get]
    unfold Entry.keepIdentity
    split <;> exact hf
  have e2 : (s.setEntry t ((s.table[t].updateSegment g.subTag (Segment.arrive st)).keepIdentity x)).updateSegment t n
      Segment.finished = { s with table := s.table.set t (s.table[t].withFinished n st x) } := by
    unfold State.updateSegment State.setEntry
    dsimp only
    rw [vector_set_get, Vector.set_set, hn, Entry.withFinished_eq]
  have e3 : (g.arrive st).subTag = n := hn
  rw [e1, e3, e2, if_pos rfl]
  unfold State.releaseSegment State.slotsReleased
  have e4 : (g.arrive st).slot = g.slot := rfl
  rw [e4]
  cases g.slot <;> rfl

/-- A downstream completion that ends an entry gives `State.entryEnded` (R37, R38, R50). -/
theorem State.takeCompletion_ends {s : State} {subTag code : Byte} {t : Tag} {g : Segment} {st : Status} {x : Sector}
    (h : s.EndsEntry subTag code t g st) : s.takeCompletion subTag.toNat code x = s.entryEnded subTag t g st x := by
  obtain ⟨ho, ht, hf, hg, hu, hc, ha⟩ := h
  unfold State.takeCompletion State.routeCompletion
  rw [if_pos ho, tagOfSubTag_eq ht, backEndStatus_eq hc]
  dsimp only
  rw [hg]
  dsimp only
  rw [State.segmentCompletion_eq (s := { s with outstanding := removeNat subTag.toNat s.outstanding }) hg hf hu]
  unfold State.closeEntry
  dsimp only
  have e : (s.table[t].withFinished subTag.toNat st x).state = .forwarded := hf
  rw [vector_set_get, if_pos (Entry.withFinished_all ha), e]
  dsimp only
  unfold State.completeEntry State.freeEntry State.setEntry State.sendUp
  dsimp only
  rw [vector_set_get, Vector.set_set]
  rfl

/-- The command of a downstream completion that ends an entry, with the follow-ups of the event (R37, R38, R50). -/
theorem exec_completion_ends {s : State} {subTag code : Byte} {t : Tag} {g : Segment} {st : Status} {x : Sector}
    (hp : s.power = .running) (ho : s.owesAnswer = false) (h : s.EndsEntry subTag code t g st) :
    exec (.downstreamCompletion subTag code x) s = .next (s.entryEnded subTag t g st x).settle := by
  show Host.Outcome.next (s.event _) = _
  rw [State.event_of_owes ho (by rw [hp]; decide), State.takeCompletion_ends h]

end Sys2Proof.Machine
end

