-- ==== Sys2Proof/Laws/Ranges.lean ====
section
/-! SUPPORT. Laws/Ranges.lean: the record writes of a range request, one after another (sections 1.6 and 8.6). -/

namespace Sys2Proof.Machine

/-- A run of one command repeated splits where a first part of it has ended. -/
theorem runs_replicate {a b : State} {m : Nat} (c : Instr) (n : Nat) (h : runs a (List.replicate m c) = .next b) :
    runs a (List.replicate (m + n) c) = runs b (List.replicate n c) := by
  induction m generalizing a with
  | zero => cases h; rw [Nat.zero_add]
  | succ m ih =>
    rw [show m + 1 + n = (m + n) + 1 by omega, List.replicate_succ, runs]
    rw [List.replicate_succ, runs] at h
    cases he : exec c a with
    | next t => rw [he] at h; exact ih h
    | fault r => rw [he] at h; cases h
    | refused r => rw [he] at h; cases h

/-- Writes in order: the write in progress, and those of the state its completion leads to (R87). -/
theorem State.writesInOrder_cons {a b : State} {c : Content} {ws : List Content}
    (hw : a.writer = ⟨some ⟨c, [.channel]⟩, []⟩) (he : exec .storeWriteCompletion a = .next b) (h : b.WritesInOrder 0 ws) : a.WritesInOrder 0 (c :: ws) := by
  intro k hk
  cases k with
  | zero => exact ⟨a, rfl, by simpa using hw⟩
  | succ k =>
    obtain ⟨d, r1, r2⟩ := h k (by simpa using hk)
    refine ⟨d, ?_, by rw [r2]; simp⟩
    rw [Nat.zero_add] at r1 ⊢
    rw [List.replicate_succ, runs, he]; exact r1

/-- Writes in order: the completions that come before the first of them. -/
theorem State.writesInOrder_after {a b : State} {m : Nat} {ws : List Content}
    (he : runs a (List.replicate m .storeWriteCompletion) = .next b) (h : b.WritesInOrder 0 ws) : a.WritesInOrder m ws := by
  intro k hk
  obtain ⟨d, r1, r2⟩ := h k hk
  exact ⟨d, by rw [runs_replicate _ _ he]; simpa using r1, r2⟩

/-- Of a strictly ascending list, the members behind the first one that `p` picks. -/
theorem filter_after {n : Nat} (l : List (Fin n)) (hl : l.Pairwise (· < ·)) (p q : Fin n → Bool) (i : Fin n)
    (rest : List (Fin n))
    (h : l.filter p = i :: rest) (hq : ∀ x, i < x → q x = p x) :
    l.filter (fun x => decide (i < x) && q x) = rest := by
  induction l with
  | nil => simp at h
  | cons a l ih =>
    rw [List.pairwise_cons] at hl
    by_cases ha : p a = true
    · rw [List.filter_cons_of_pos ha] at h
      obtain ⟨rfl, rfl⟩ := List.cons.inj h
      rw [List.filter_cons_of_neg (by simp)]
      refine List.filter_congr fun x hx => ?_
      have := hl.1 x hx
      simp [this, hq x this]
    · rw [List.filter_cons_of_neg ha] at h
      have : i ∈ l := by have : i ∈ l.filter p := by rw [h]; simp
                         exact (List.mem_filter.1 this).1
      have := hl.1 i this
      rw [List.filter_cons_of_neg (by simp; intro h2; omega)]
      exact ih hl.2 h

/-- The user records that a range request has still to rewrite, in slot order (R96). -/
def State.usersLeft (s : State) (j : RangeJob) : List SlotIndex :=
  allSlots.filter fun i => decide (j.nextSlot ≤ i.val) && s.userNames j.range i

/-- A request in service, with a response that stands, while nothing is written and nothing else waits. -/
structure State.InRequest (w : State) (v : Service) : Prop where
  power : w.power = .running
  service : w.service = some v
  discard : v.discard = false
  struck : v.struck = false
  queue : w.queue = []
  lane : w.lane = []
  dataLane : w.dataLane = []
  sessionEnd : w.sessionEnd = false
  held : w.heldPowerEnter = false
  writer : w.writer = ⟨none, []⟩

/-- The answer of a request whose response stands (R121). -/
theorem State.answer_eq {s : State} {v : Service} (hv : s.service = some v) (hd : v.discard = false) (st : Status)
    (f : Response) : s.answer st f = { s.answered v.tag st v.code f with service := none } := by
  unfold State.answer; rw [hv]; dsimp only; rw [hd]; rfl

/-- Rewriting credential records moves with the service place. -/
theorem usersRewritten_service (L : List SlotIndex) (g : SlotIndex → Credential) (w : State) (a) :
  L.foldl (fun w i => w.withCredential i (g i)) { w with service := a } =
  { (L.foldl (fun w i => w.withCredential i (g i)) w) with service := a } := by
  induction L generalizing w with
  | nil => rfl
  | cons i L ih => exact ih (w.withCredential i (g i))

/-- All that the last part of a range request does: the user records left are written one at a time in slot order, and at the last
one's completion the request is answered GOOD (R20, R21, R96, R163). -/
theorem State.rangeUsers_writes (L : List SlotIndex) : ∀ (w s : State) (v : Service) (j : RangeJob), w.InRequest v →
    1 ≤ j.nextSlot → w.usersLeft j = L →
    (∀ i : SlotIndex, j.nextSlot ≤ i.val → w.copies.credentials[i] = s.copies.credentials[i]) →
    ((w.rangeUsers v j).writerOn.settle).WritesInOrder 0
        (L.map fun i => .credential i (w.copies.layout.withoutRange j.range (s.credential i))) ∧
      ∃ b, runs ((w.rangeUsers v j).writerOn.settle) (List.replicate L.length .storeWriteCompletion) = .next b ∧
        b = { (L.foldl (fun x i => x.withCredential i (w.copies.layout.withoutRange j.range (s.credential i))) w).answered
          v.tag .good v.code j.answer with service := none } := by
  induction L with
  | nil =>
    intro w s v j h _ hL _
    have e : w.rangeUsers v j = { w.answered v.tag .good v.code j.answer with service := none } := by
      unfold State.rangeUsers
      rw [← List.head?_filter, show allSlots.filter _ = _ from hL]
      exact State.answer_eq h.service h.discard _ _
    have e2 : (w.rangeUsers v j).writerOn.settle = { w.answered v.tag .good v.code j.answer with service := none } := by
      rw [e]
      have : ({ w.answered v.tag .good v.code j.answer with service := none } : State).writerOn =
          { w.answered v.tag .good v.code j.answer with service := none } := by
        unfold State.writerOn Writer.beginNext; have := h.writer; simp [State.answered, this]
      rw [this]
      exact State.settle_calm ⟨h.power, rfl, h.queue, h.lane, h.dataLane, h.sessionEnd, h.held⟩
    rw [e2]
    refine ⟨?_, _, rfl, rfl⟩
    intro k hk
    simp at hk; subst hk
    exact ⟨_, rfl, h.writer⟩
  | cons i L ih =>
    intro w s v j h h1 hL hc
    have hi : i ∈ w.usersLeft j := by rw [hL]; simp
    have hi2 := (List.mem_filter.1 hi).2
    simp only [Bool.and_eq_true, decide_eq_true_eq] at hi2
    have ci : w.credential i = s.credential i := by unfold State.credential; rw [hc i hi2.1]
    let c : Content := .credential i (w.copies.layout.withoutRange j.range (s.credential i))
    let j' : RangeJob := { j with nextSlot := i.val + 1 }
    let v' : Service := { v with stage := .rangeUser j' }
    let b0 : State := { w with service := some v', writer := ⟨some ⟨c, [.channel]⟩, []⟩ }
    have e : (w.rangeUsers v j).writerOn.settle = b0 := by
      have e1 : w.rangeUsers v j = b0 := by
        unfold State.rangeUsers
        rw [← List.head?_filter, show allSlots.filter _ = _ from hL]
        show w.awaitWrite v (.rangeUser j') (.credential i (w.copies.layout.withoutRange j.range (w.credential i))) = _
        rw [ci]
        unfold State.awaitWrite State.requestWrite
        rw [if_pos (by show w.writer.current = none ∧ w.writer.queue = []; rw [h.writer]; exact ⟨rfl, rfl⟩)]
        rfl
      rw [e1]
      exact State.settle_serving (v := v') rfl rfl h.sessionEnd h.held h.lane h.dataLane
    rw [e]
    let w' : State := { w.withCredential i (w.copies.layout.withoutRange j.range (s.credential i)) with service := some v' }
    have st : exec .storeWriteCompletion b0 = .next ((w'.rangeUsers v' j').writerOn.settle) := by
      rw [exec_channelWrite (u := b0) h.power rfl rfl]
      have hw' : b0.landWrite ⟨c, [.channel]⟩ = w' := by
        have hww : ({ w with writer := ⟨none, []⟩ } : State) = w := by rw [← h.writer]
        show ({ ({ w with writer := ⟨none, []⟩ } : State).withCredential i
          (w.copies.layout.withoutRange j.range (s.credential i)) with service := some v' } : State) = w'
        rw [hww]
      rw [hw']
      have : w'.channelTold = w'.rangeUsers v' j' := by
        unfold State.channelTold
        show (if v'.struck = true then _ else _) = _
        rw [if_neg (by show ¬ v.struck = true; rw [h.struck]; simp)]
      rw [this]
    have hF : w'.InRequest v' := ⟨h.power, rfl, h.discard, h.struck, h.queue, h.lane, h.dataLane, h.sessionEnd,
      h.held, h.writer⟩
    have hcred : ∀ x, i < x → w'.copies.credentials[x] = w.copies.credentials[x] := by
      intro x hx
      show (w.copies.credentials.set i _)[x] = _
      rw [vector_get_set, if_neg (by intro h; subst h; exact absurd hx (lt_irrefl _))]
    have hn : ∀ x, i < x → w'.userNames j.range x = w.userNames j.range x := by
      intro x hx
      unfold State.userNames; rw [hcred x hx]
    have hR : w'.usersLeft j' = L := by
      have := filter_after allSlots (by decide) _ (fun x => w'.userNames j.range x) i L hL (by
        intro x hx
        have := hn x hx
        simp only [this]
        have : j.nextSlot ≤ x.val := le_of_lt (lt_of_le_of_lt hi2.1 hx)
        simp [this])
      rw [← this]
      unfold State.usersLeft
      refine List.filter_congr fun x _ => ?_
      congr 1
    obtain ⟨q1, b, q2, q3⟩ := ih w' s v' j' hF (by show 1 ≤ i.val + 1; omega) hR (by
      intro x hx
      have hx : i < x := hx
      rw [hcred x hx, hc x (le_of_lt (lt_of_le_of_lt hi2.1 hx))])
    constructor
    · intro k hk
      cases k with
      | zero => exact ⟨b0, rfl, rfl⟩
      | succ k =>
        obtain ⟨b, r1, r2⟩ := q1 k (by simpa using hk)
        refine ⟨b, ?_, ?_⟩
        · show runs b0 (List.replicate (0 + (k + 1)) _) = _
          rw [Nat.zero_add] at r1 ⊢
          rw [List.replicate_succ, runs, st]
          exact r1
        · rw [r2]; simp; rfl
    · refine ⟨b, ?_, ?_⟩
      · show runs b0 (List.replicate (L.length + 1) _) = _
        rw [List.replicate_succ, runs, st]; exact q2
      · rw [q3]
        have := usersRewritten_service L (fun i => w.copies.layout.withoutRange j.range (s.credential i))
          (w.withCredential i (w.copies.layout.withoutRange j.range (s.credential i))) (some v')
        exact (congrArg (fun x : State => ({ x.answered v.tag .good v.code j.answer with service := none } : State))
          this).trans rfl

end Sys2Proof.Machine
end

