-- ==== Sys2Proof/Tests/Slice0.lean ====
section
/-! SUPPORT. Tests/Slice0.lean: well-formedness smoke tests, the worked cases of the manual as tests of the model, and for
every statement with hypotheses a witness: a concrete state and operands that meet them. Expected values are the manual's. -/

open Sys2Proof Sys2Proof.Machine

namespace Sys2Proof.Tests

/-! ## Well-formedness: one ill-formed term for each check -/

theorem test_ill_envelope : WellFormed.envelopeFits ([] : List Byte) = true ∧
    ∀ n, 2 ^ 32 ≤ n → WellFormed.envelopeFits (List.replicate n 0) = false := by
  refine ⟨by decide, fun n h => ?_⟩
  simp only [WellFormed.envelopeFits, List.length_replicate, decide_eq_false_iff_not]
  omega

theorem test_ill_kind : (Instr.undefinedKindCapsule 6 0).wellFormed = false ∧
    (Instr.undefinedKindCapsule 7 0).wellFormed = true := by decide

theorem test_ill_reveal (n : Nat) (h : 255 < n) :
    (Instr.setCredential 0 ⟨0, 0⟩ 1 1 0 0 (List.replicate n 0)).wellFormed = false := by
  simp only [Instr.wellFormed, WellFormed.listFits, List.length_replicate, decide_eq_false_iff_not]
  omega

theorem test_ill_ranges (n : Nat) (h : 255 < n) : (Instr.lock 0 ⟨0, 0⟩ (List.replicate n 0)).wellFormed = false := by
  simp only [Instr.wellFormed, WellFormed.listFits, List.length_replicate, decide_eq_false_iff_not]
  omega

theorem test_ill_entries (n : Nat) (h : 255 < n) :
    (Instr.setLocks 0 ⟨0, 0⟩ (List.replicate n ⟨0, 0, 0⟩)).wellFormed = false := by
  simp only [Instr.wellFormed, WellFormed.listFits, List.length_replicate, decide_eq_false_iff_not]
  omega

/-! ## The drive of section 1.7 -/

/-- The next state of a command. -/
def after (c : Instr) (s : State) : Option State :=
  match exec c s with
  | .next t => some t
  | .fault _ | .refused _ => none

/-- The layout of section 1.7, range 2 with both lock-on events. -/
def layout17 : Layout :=
  ((Layout.manufactured.set 1 ⟨true, some (399737856, 262144), false, true, false, ⟨false, false⟩, 1⟩).set 2
    ⟨true, some (2048, 200000000), false, false, false, ⟨true, true⟩, 1⟩).set 3
    ⟨true, some (300000000, 50000000), true, false, false, ⟨false, false⟩, 1⟩

/-- A wrap, under the key-wrapping key of secret 0 and salt 0, of the key 0. -/
def wrapOf (r : RangeIndex) (g : Generation) : Wrap := wrapKey (Config.wrappingKey 0 0) r g 0

/-- U's wraps of section 1.7. -/
def wrapsU : List Wrap := [wrapOf 0 0, wrapOf 2 1]

/-- R's wraps of section 1.7; the owner holds them too. -/
def wrapsR : List Wrap := [wrapOf 0 0, wrapOf 2 1, wrapOf 3 1]

/-- A credential of secret 0 under salt 0. -/
def credentialOf (k : CredentialKind) (ws : List Wrap) : Credential :=
  ⟨k, some .active, some 0, some (Config.secretDigest 0 0), ws⟩

/-- U's open view. -/
def viewU : View := layout17.openView 400000000 wrapsU

/-- The drive of section 1.7 in an access state: the owner in slot 0, U in slot 1, a WIPE credential in slot 2, U's open view
current, slots 0 and 2 loaded, and no traffic. -/
def drive (a : Access) : State :=
  { State.reset with
    power := .running
    access := a
    copies := { Copies.unloaded with
      layout := layout17
      credentials := (((Vector.replicate 8 ⟨some Credential.empty, false⟩).set 0
        ⟨some (credentialOf .owner wrapsR), false⟩).set 1 ⟨some (credentialOf .user wrapsU), false⟩).set 2
        ⟨some (credentialOf .wipe []), false⟩ }
    view := some viewU
    slots := (State.reset.slots.set 0 ⟨.loaded, some 0, some 0, 0⟩).set 2 ⟨.loaded, some 0, some 1, 0⟩
    locks := (State.reset.locks.set 0 ⟨false, false⟩).set 2 ⟨false, false⟩ }

/-- The drive in LOCKED: the image view, no key and every range both-locked. -/
def locked : State :=
  { drive .locked with
    view := some layout17.imageView
    slots := State.reset.slots
    locks := State.reset.locks }

/-- The manufactured drive in BLANK. -/
def blank : State :=
  { State.reset with
    power := .running
    access := .blank
    copies := { Copies.unloaded with
      credentials := (Vector.replicate 8 ⟨some Credential.empty, false⟩).set 0
        ⟨some (Credential.blank manufacturedDeviceWrap), false⟩ }
    view := some (View.full 400000000)
    slots := State.reset.slots.set 0 ⟨.loaded, some 0, some 0, 0⟩
    locks := State.reset.locks.set 0 ⟨false, false⟩ }

/-- The drive with a policy. -/
def withPolicy (s : State) (p : Policy) : State := { s with copies := { s.copies with policy := p } }

/-- A segment: sub-tag, command offset, media LBA, count and slot. -/
def seg (subTag offset lba count : Nat) (slot : Option RangeIndex) : Segment :=
  ⟨lba, count, slot, slot, subTag, offset, [], [], 0, none, none⟩

/-- The open drive with an entry for tag 0. -/
def busy (e : Entry) : State :=
  { drive .opened with
    table := (drive .opened).table.set 0 e
    outstanding := (e.segments.filter fun g => g.status.isNone && g.arrived.isNone).map Segment.subTag }

/-- An entry of a WRITE of 16 sectors that crosses from range 0 into range 2 (section 2.5, case 3). -/
def writeEntry (st : EntryState) : Entry :=
  ⟨some .write, st, 2040, 16, [seg 0 0 2040 8 (some 0), seg 1 8 2048 8 (some 2)], none, none, none⟩

/-- An entry of a READ of one segment of 8 sectors. -/
def readEntry (st : EntryState) (g : Segment) : Entry := ⟨some .read, st, 0, 8, [g], none, none, none⟩

/-- An entry in a state, without segments. -/
def bareEntry (st : EntryState) : Entry := ⟨some .flush, st, 0, 0, [], none, none, none⟩

/-- The open drive with tag 0's WRITE of one segment through slot 2 as its only traffic, slot 2 in a state with that one use. -/
def oneLeft (a : Access) (k : SlotState) : State :=
  { drive a with
    table := (drive a).table.set 0 ⟨some .write, .forwarded, 2048, 8, [seg 0 0 2048 8 (some 2)], none, none, none⟩
    outstanding := [0]
    slots := (State.reset.slots.set 2 ⟨k, some 0, some 1, 1⟩) }

/-- A request in service with a stage, under tag 30. -/
def inStage (s : State) (r : Request) (g : Stage) : State :=
  { s with
    table := s.table.set 30 Entry.ofControl
    service := some ⟨30, r.code, r, some (0, 0), s.access, g, false, false⟩ }

/-- The completion of sub-tag 0 ends the traffic of `oneLeft`, in every stage of the service place. -/
theorem oneLeft_ends (a : Access) (k : SlotState) (code : Byte) (st : Status)
    (h : (code = 0 ∧ st = .good) ∨ (code = 5 ∧ st = .aborted) ∨ (code ≠ 0 ∧ code ≠ 5 ∧ st = .mediaError)) :
    (oneLeft a k).EndsEntry 0 code 0 (seg 0 0 2048 8 (some 2)) st := by
  refine ⟨by simp [oneLeft], rfl, rfl, rfl, rfl, h, ?_⟩
  intro u hu hn
  have e : u = seg 0 0 2048 8 (some 2) := by simpa [oneLeft] using hu
  subst e
  exact absurd rfl hn

/-! ## The worked cases of chapters 1 and 2 -/

/-- The media partition of section 1.7. -/
theorem test_partition : layout17.partition 400000000 =
    [⟨0, 2048, 0⟩, ⟨2048, 200000000, 2⟩, ⟨200002048, 99997952, 0⟩, ⟨300000000, 50000000, 3⟩,
      ⟨350000000, 49737856, 0⟩, ⟨399737856, 262144, 1⟩] := by decide

/-- The image view of section 1.7. -/
theorem test_image_view : layout17.imageView.entries = [⟨0, 399737856, 262144, 1⟩] := by decide

/-- U's open view of section 1.7, with range 3 concealed. -/
theorem test_open_view_U : viewU.entries =
    [⟨0, 0, 2048, 0⟩, ⟨2048, 2048, 200000000, 2⟩, ⟨200002048, 200002048, 99997952, 0⟩,
      ⟨300000000, 350000000, 49737856, 0⟩] ∧ viewU.capacity = 349737856 := by decide

/-- R's open view of section 1.7. -/
theorem test_open_view_R : (layout17.openView 400000000 wrapsR).entries =
    [⟨0, 0, 2048, 0⟩, ⟨2048, 2048, 200000000, 2⟩, ⟨200002048, 200002048, 99997952, 0⟩, ⟨300000000, 300000000, 50000000, 3⟩,
      ⟨350000000, 350000000, 49737856, 0⟩] ∧ (layout17.openView 400000000 wrapsR).capacity = 399737856 := by decide

/-- Requests A, B and C of section 1.8. -/
theorem test_define_rounding :
    takenExtent 400000000 300000003 50000000 = (300000008, 49999992) ∧
      layout17.admits 3 false (300000008, 49999992) = true ∧
      takenExtent 400000000 399000000 2000000 = (399000000, 1000000) ∧
      layout17.admits 4 false (399000000, 1000000) = false ∧
      takenExtent 400000000 399737856 300000 = (399737856, 262144) ∧
      layout17.admits 1 true (399737856, 262144) = true := by decide

/-- Section 2.5, case 1: the segments. -/
theorem test_read : (after (.read 7 299999800 500) (drive .opened)).map (fun s => s.table[(7 : Tag)].segments.map
    fun g => (g.lba, g.count, g.slot, g.subTag, g.offset)) =
      some [(299999800, 200, some 0, 14, 0), (350000000, 300, some 0, 15, 200)] := by decide

/-- Section 2.5, case 1: the use count. -/
theorem test_read_uses : (after (.read 7 299999800 500) (drive .opened)).map (fun s => s.slots[(0 : RangeIndex)].uses) = some 2 := by
  decide

/-- Section 2.5, case 3: one locked segment refuses the whole WRITE. -/
theorem test_write_locked : exec (.write 9 2040 16) { drive .opened with locks := (drive .opened).locks.set 2 ⟨false, true⟩ } =
    .next { drive .opened with
      locks := (drive .opened).locks.set 2 ⟨false, true⟩
      outbound := [.completion 2 9 .locked 0 none none] } := rfl

/-- A DEALLOCATE is bound as a WRITE (R35). -/
theorem test_deallocate : (after (.deallocate 0 2040 16) (drive .opened)).map State.downstream =
    some [.command .deallocate 0 2040 8, .command .deallocate 1 2048 8] := by decide

/-- FLUSH and IDENTIFY under tag 5 bear sub-tag 10; an IDENTIFY under the image view records 262,144 (R17, R36). -/
theorem test_flush_identify : (after (.flush 5) (drive .opened)).map State.downstream = some [.command .flush 10 0 0] ∧
    (after (.identify 5) locked).map (fun s => s.table[(5 : Tag)].capacity) = some (some 262144) := by decide

/-- An undefined kind on a FREE tag is INVALID under its own kind byte (R45). -/
theorem test_undefined_kind : (after (.undefinedKindCapsule 77 3) (drive .opened)).map State.outbound =
    some [.completion 77 3 .invalid 0 none none] := by decide

/-- An envelope of two bytes is answered INVALID (R59). -/
theorem test_control : (after (.control 3 [0, 0]) (drive .opened)).map State.outbound =
    some [controlCompletion 3 .invalid 0 .noFields] := by decide

/-- READ sectors of an image segment pass unchanged at the segment's command offset (R33, R34). -/
theorem test_read_sectors :
    (after (.readDataSector 0 7 zeroSector) (busy (readEntry .forwarded (seg 0 0 0 8 none)))).map State.readHeld =
      some [⟨0, 7, zeroSector⟩] ∧
    (after (.readSectorPassedUpstream 0 7) { busy (readEntry .forwarded { seg 0 0 0 8 none with unpassed := 1 }) with
      readHeld := [⟨0, 7, zeroSector⟩] }).map State.outbound = some [.readData 0 7 zeroSector] := by decide

/-- A WRITE sector received twice sets PROTOCOL_ERROR (R43). -/
theorem test_write_sector_again :
    (after (.writeDataSector 0 0 zeroSector) (busy ⟨some .write, .forwarded, 0, 8,
      [{ seg 0 0 0 8 none with received := [0] }], none, none, none⟩)).map (fun s => s.notices.protocolError) = some true := by
  decide

/-- A write sector goes down under its segment's sub-tag; an ABORTING one goes down as zeros (R32, R39). -/
theorem test_write_goes_down :
    (after (.writeSectorSentDownstream 1) { busy (writeEntry .forwarded) with writeHeld := [⟨1, 3, zeroSector⟩] }).map
      State.downstream = some [.writeData 1 3 zeroSector] ∧
    (after (.zeroWriteSectorSent 1 7) (busy (writeEntry .aborting))).map State.downstream = some [.writeData 1 7 zeroSector] := by
  decide

/-- A completion with an unknown code counts as MEDIA_ERROR (R50). -/
theorem test_completion : (after (.downstreamCompletion 0 9 zeroSector) (busy (readEntry .forwarded (seg 0 0 0 8 none)))).map
    State.outbound = some [.completion 1 0 .mediaError 0 none none] := by decide

/-- A link reset in OPEN locks range 2, whose lock-on set holds LINK_RESET (R69). -/
theorem test_link_reset : (after .linkReset (drive .opened)).map (fun s =>
    (s.locks[(2 : RangeIndex)], s.slots[(2 : RangeIndex)].state, s.notices.rangesLocked)) =
      some (⟨true, true⟩, .empty, true) := by decide +kernel

/-- POWER ENTER and POWER EXIT (section 10.3). -/
theorem test_power_notices : (after .powerEnter (drive .opened)).map (fun s => (s.access, s.resume, s.slots[(2 : RangeIndex)].state)) =
      some (.dormant, some .opened, .empty) ∧
    (after .powerExit { drive .dormant with resume := some .opened }).map (fun s => (s.access, s.outbound)) =
      some (.opened, [.acknowledgement .powerExit .good]) := by decide

/-- The back-off period for a count of 6 with 5 free tries is one second, and never above 1024 (R103). -/
theorem test_backoff_period : backoffPeriod 6 5 = 1 ∧ backoffPeriod 8 5 = 4 ∧ backoffPeriod 200 5 = 1024 := by
  simp [backoffPeriod]

/-- The counters repair with L = 10 and A = 30 (R92). -/
theorem test_repair : repairedCounters ⟨false, 5, 10, 30, .ignore, .none, none, .keys⟩ = ⟨9, 29⟩ ∧
    repairedCounters Policy.defaults = ⟨5, 0⟩ := by decide

/-- The progress figure of section 10.4's sanitize, at its start and at its end (R158). -/
theorem test_progress : progressOf 400000000 (some ⟨399737856, 262144, 1⟩) 0 = 0 ∧
    progressOf 400000000 (some ⟨399737856, 262144, 1⟩) 400000000 = 100 := by decide

/-- Power-good on the manufactured drive runs the self-test, and its end reaches BLANK or the fault of a device wrap that does
not check; the wrap at manufacture checks. -/
theorem test_power_up : (after (.powerGood .closed) State.reset).map State.power = some .selfTest := by decide

/-- A power loss tears the counters record being written (R90). -/
theorem test_power_loss : (after (.powerLoss .torn) { drive .opened with writer := ⟨some ⟨.counters ⟨1, 0⟩, [.channel]⟩, []⟩ }).map
    (fun s => (s.store.counters, s.power)) = some (.torn, .off) := by decide

/-- The header of a READ capsule: kind, tag, count, LBA and zeros (section 3.10). -/
theorem test_capsule_bytes : Capsule.bytes ⟨1, 7, 500, 299999800, []⟩ =
    [1, 7, 0xF4, 0x01, 0x38, 0xA2, 0xE1, 0x11, 0, 0, 0, 0, 0, 0, 0, 0] := by decide

/-- The envelope of an UNLOCK with handover AT_LINK_RESET: code 18, one field byte, slot 1 (section 3.10, R60). -/
theorem test_envelope_bytes : (envelopeOf ⟨1, 0⟩ (.unlock 1)).take 8 = [18, 0, 1, 0, 1, 0, 0, 0] ∧
    (envelopeOf ⟨1, 0⟩ (.unlock 1)).length = 41 := by decide

/-! ## Witnesses: states and operands that meet the hypotheses of each statement -/

theorem drive_calm (a : Access) : (drive a).Calm := ⟨rfl, rfl, rfl, rfl, rfl, rfl, rfl⟩

theorem busy_calm (e : Entry) : (busy e).Calm := ⟨rfl, rfl, rfl, rfl, rfl, rfl, rfl⟩

theorem drive_free (a : Access) : (drive a).FreeTag 31 31 := ⟨rfl, rfl⟩

/-- The gate is open for the owner, U and the WIPE credential, with the secret 0. -/
theorem drive_ready (a : Access) : (drive a).Ready 31 31 ⟨0, 0⟩ 0 ∧ (drive a).Ready 31 31 ⟨1, 0⟩ 1 ∧
    (drive a).Ready 31 31 ⟨2, 0⟩ 2 := by
  have n : ¬ ((0 : SlotIndex) = 0 ∧ (drive .locked).lacksGlobalWrap = true) := by decide
  have v : decide (Config.secretDigest 0 0 = Config.secretDigest 0 0) = true := decide_eq_true rfl
  exact ⟨⟨drive_calm a, drive_free a, rfl, rfl, rfl, v, rfl, n⟩,
    ⟨drive_calm a, drive_free a, rfl, rfl, rfl, v, rfl, fun h => absurd h.1 (by decide)⟩,
    ⟨drive_calm a, drive_free a, rfl, rfl, rfl, v, rfl, fun h => absurd h.1 (by decide)⟩⟩

theorem witness_EnvelopeDecodes : (Request.lock (List.replicate 255 15)).wellFormed = true ∧
    (Request.setPolicy 255 255 255 255 255).wellFormed = true ∧ blockSlot 0 = some (some 0) ∧ blockSlot 7 = some (some 7) ∧
    blockSlot 255 = some none := by
  refine ⟨?_, by decide, by decide, by decide, by decide⟩
  simp only [Request.wellFormed, WellFormed.listFits, List.length_replicate]
  decide

theorem witness_CapsuleBytesDecode : WellFormed.envelopeFits [1, 2, 3] = true ∧
    ((255 : Byte) ≠ Kind.code .control ∧ (Capsule.plain 255 31 []).envelope = []) := by decide

theorem witness_StepRunsTheFrontCommand : ({ drive .opened with pending := [.flush 0, .linkReset] } : State).pending =
    .flush 0 :: [.linkReset] := rfl

/-- Also of FlushAndIdentifyBound and, with counts 0, 1025 and 65535, of CountCheck. -/
theorem witness_DataCapsuleGoesByItsStages :
    (∀ a, (drive a).Calm ∧ (drive a).FreeTag 31 31) ∧
    (drive .blank).InService ∧ (drive .locked).InService ∧ (drive .staged).InService ∧
    (drive .opened).InService ∧ (0 : BitVec 16).toNat = 0 ∧ 1024 < (1025 : BitVec 16).toNat ∧ 1024 < (65535 : BitVec 16).toNat :=
  ⟨fun a => ⟨drive_calm a, drive_free a⟩, by
    decide⟩

theorem witness_CountCheck :
    (∀ a, (drive a).Calm ∧ (drive a).FreeTag 31 31) ∧
    (drive .opened).view = some viewU ∧ 0 + 1024 ≤ viewU.capacity ∧ viewU.split 0 1 ≠ none ∧
    viewU.split 0 1024 ≠ none :=
  ⟨fun a => ⟨drive_calm a, drive_free a⟩, by decide⟩

theorem witness_BoundsCheck :
    (∀ a, (drive a).Calm ∧ (drive a).FreeTag 31 31) ∧
    viewU.capacity < (349737856 : BitVec 48).toNat + (1 : BitVec 16).toNat ∧
    viewU.capacity < (281474976710655 : BitVec 48).toNat + (1024 : BitVec 16).toNat ∧ 349737855 + 1 ≤ viewU.capacity :=
  ⟨fun a => ⟨drive_calm a, drive_free a⟩, by
    decide⟩

/-- A view whose middle entry a capsule reaches past. -/
def narrow : View := ⟨.opened, [⟨0, 0, 1, 0⟩, ⟨1, 1, 1, 2⟩, ⟨2, 2, 1, 0⟩], []⟩

theorem witness_SplitKeepsAddresses : runningFrom 0 viewU.entries = true ∧ viewU.split 2040 16 ≠ none ∧ 2040 + 16 ≤ viewU.capacity ∧
    runningFrom 0 narrow.entries = true ∧ 0 + 3 ≤ narrow.capacity ∧ narrow.split 0 3 = none := by decide

/-- A keyed piece passes and fails; an image piece passes and fails, for a READ and for a WRITE. -/
theorem witness_LockCheck :
    (∀ a, (drive a).Calm ∧ (drive a).FreeTag 31 31) ∧
    viewU.split 2040 16 = some [⟨2040, 8, 0, 0⟩, ⟨2048, 8, 2, 8⟩] ∧
    (drive .opened).locks[(0 : RangeIndex)].readLock = false ∧ (drive .opened).slots[(2 : RangeIndex)].state = .loaded ∧
    viewU.split 300000000 1024 = some [⟨350000000, 1024, 0, 0⟩] ∧ locked.locks[(0 : RangeIndex)].writeLock = true ∧
    layout17.imageView.kind = .image ∧ locked.view = some layout17.imageView ∧
    layout17.imageView.split 262143 1 = some [⟨399999999, 1, 1, 0⟩] ∧ locked.access = .locked ∧ locked.latch = false ∧
    ({ locked with latch := true } : State).Calm :=
  ⟨fun a => ⟨drive_calm a, drive_free a⟩, by decide⟩

theorem witness_DataCapsuleRefusedByAccess :
    (∀ a, (drive a).Calm ∧ (drive a).FreeTag 31 31) ∧
    (drive .wiping).access = .wiping ∧ (drive .dormant).access = .dormant ∧
    (drive .fault).access = .fault ∧
    ({ busy (writeEntry .forwarded) with heldPowerEnter := true } : State).noneForwarded = false ∧
    ({ busy (writeEntry .forwarded) with heldPowerEnter := true } : State).FreeTag 31 31 ∧
    ({ busy (writeEntry .forwarded) with heldPowerEnter := true } : State).InService :=
  ⟨fun a => ⟨drive_calm a, drive_free a⟩, by decide⟩

theorem witness_TagsTestedFirst :
    (∀ a, (drive a).Calm ∧ (drive a).FreeTag 31 31) ∧ (∀ e, (busy e).Calm) ∧
    WellFormed.undefinedKind 0 = true ∧ WellFormed.undefinedKind 255 = true ∧
    (Instr.flush 32).capsule? = some (.plain 4 32 []) ∧ tagOf 32 = none ∧ tagOf 255 = none ∧ tagOf 0 = some 0 ∧
    (busy (writeEntry .forwarded)).table[(0 : Tag)].state = .forwarded ∧ (busy (bareEntry .control)).table[(0 : Tag)].state = .control ∧
    (busy (writeEntry .aborting)).table[(0 : Tag)].state = .aborting ∧ (busy (writeEntry .orphaned)).table[(0 : Tag)].state = .orphaned ∧
    (∀ n, kindOfByte 4 ≠ .notice n) ∧ (busy (writeEntry .orphaned)).blocked (.plain 4 0 []) = true :=
  ⟨fun a => ⟨drive_calm a, drive_free a⟩, busy_calm, by
    refine ⟨by decide, by decide, by decide, by decide, by decide, by decide, by decide, by decide, by decide, by decide, ?_, by decide⟩
    intro n
    cases n <;> decide⟩

/-- The owner's UNLOCK in service on tag 30, and requests that wait. -/
def serving (a : Access) (n : Nat) : State :=
  { drive a with
    service := some ⟨30, 18, .unlock 0, some (0, 0), a, .gateCount, false, false⟩
    queue := List.replicate n ⟨29, 40, []⟩ }

/-- A request that awaits its last write, with the request that waits behind it under tag 29. -/
def servedNext : State :=
  { drive .opened with
    table := ((drive .opened).table.set 30 Entry.ofControl).set 29 Entry.ofControl
    service := some ⟨30, 64, .setPolicy 0 0 0 0 0, some (0, 0), .opened, .lastWrite .noFields, false, false⟩
    queue := [⟨29, (envelopeOf ⟨0, 0⟩ .queryState).length, (envelopeOf ⟨0, 0⟩ .queryState).take 1024⟩]
    writer := ⟨some ⟨.policy Policy.defaults, [.channel]⟩, []⟩ }

/-- A write awaited, a hold not ended, and the ends of the queue's range; a request that waits alone. -/
theorem witness_ControlWaitsOrIsBusy :
    (∀ a, (drive a).Calm ∧ (drive a).FreeTag 31 31) ∧
    ((serving .opened 3).Serving ∧ (serving .opened 3).queue.length < 4 ∧
    (serving .locked 4).Serving ∧ 4 ≤ (serving .locked 4).queue.length ∧ (serving .opened 0).FreeTag 31 31 ∧
    (serving .dormant 0).Serving ∧ (serving .dormant 0).access = .dormant) ∧
    (inStage (oneLeft .opened .draining) (.lock [2]) (.holdLock [2])).Serving ∧
    (inStage (oneLeft .opened .draining) .selfTest .holdTest).Serving ∧
    (servedNext.Serving ∧ servedNext.Busy ⟨30, 64, .setPolicy 0 0 0 0 0, some (0, 0), .opened, .lastWrite .noFields, false, false⟩ ∧
    servedNext.table[(29 : Tag)] = Entry.ofControl ∧ servedNext.writer = ⟨some ⟨.policy Policy.defaults, [.channel]⟩, []⟩) ∧
    ({ servedNext with service := none } : State).channelReady = false ∧ (drive .opened).settleStep = none :=
  ⟨fun a => ⟨drive_calm a, drive_free a⟩, by decide, by decide⟩

/-- A request that waits enters service as the place empties, and is answered (R121). -/
theorem test_next_request : (after .storeWriteCompletion servedNext).map (fun s => (s.outbound.length, s.service, s.queue)) =
    some (2, none, []) := by decide

/-- Each condition of the envelope's test at the ends of its range. -/
theorem witness_BadEnvelopeAnsweredInvalid :
    (∀ a, (drive a).Calm ∧ (drive a).FreeTag 31 31) ∧
    (List.replicate 39 (0 : Byte)).length < 40 ∧ 1024 < (List.replicate 1025 (0 : Byte)).length ∧
    (List.replicate 41 (0 : Byte)).length ≠ 40 + fieldAt (List.replicate 41 0) 2 2 ∧
    8 ≤ (byteAt (envelopeOf ⟨8, 0⟩ .wipe) 4).toNat ∧ (byteAt (envelopeOf ⟨254, 0⟩ .wipe) 4).toNat ≤ 254 ∧
    fieldAt ([18, 0] ++ List.replicate 38 0) 2 2 < minimumFieldLength (fieldAt ([18, 0] ++ List.replicate 38 0) 0 2)
      (([18, 0] ++ List.replicate 38 0 : List Byte).drop 40) ∧
    fieldAt ([32, 0, 2, 0] ++ List.replicate 36 0 ++ [2, 1]) 2 2 <
      minimumFieldLength (fieldAt ([32, 0, 2, 0] ++ List.replicate 36 0 ++ [2, 1]) 0 2)
        (([32, 0, 2, 0] ++ List.replicate 36 0 ++ [2, 1] : List Byte).drop 40) ∧
    (∀ r : Request, envelopeCode (List.replicate 40 0) ≠ r.code) :=
  ⟨fun a => ⟨drive_calm a, drive_free a⟩, by
    refine ⟨by decide, by rw [List.length_replicate]; decide, by decide, by decide, by decide, by decide, by decide, ?_⟩
    intro r
    have h : envelopeCode (List.replicate 40 0) = 0 := by decide
    rw [h]
    cases r <;> simp [Request.code]⟩

/-- The first and the last offset of each segment, enciphered and plain. -/
theorem witness_WriteSectorEnciphered :
    (∀ e, (busy e).Calm) ∧
    (busy (writeEntry .forwarded)).table[(0 : Tag)].segmentAt 0 = some (seg 0 0 2040 8 (some 0)) ∧
    (busy (writeEntry .forwarded)).table[(0 : Tag)].segmentAt 15 = some (seg 1 8 2048 8 (some 2)) ∧
    15 < (busy (writeEntry .forwarded)).table[(0 : Tag)].count ∧ 15 - 8 ∉ (seg 1 8 2048 8 (some 2)).received ∧
    (busy (writeEntry .forwarded)).slots[(2 : RangeIndex)].key = some 0 ∧
    (busy ⟨some .write, .forwarded, 0, 8, [seg 0 0 0 8 none], none, none, none⟩).table[(0 : Tag)].segmentAt 7 =
      some (seg 0 0 0 8 none) :=
  ⟨busy_calm, by decide⟩

/-- A WRITE of one segment finished or partly received, and a state whose outstanding set holds a sub-tag of the Wipe Engine. -/
theorem witness_SectorsAndCompletionsDiscarded :
    (∀ a, (drive a).Calm ∧ (drive a).FreeTag 31 31) ∧ (∀ e, (busy e).Calm) ∧
    (busy (writeEntry .aborting)).table[(0 : Tag)].state = .aborting ∧ (busy (writeEntry .orphaned)).table[(0 : Tag)].state = .orphaned ∧
    (busy ⟨some .write, .forwarded, 0, 16, [{ seg 0 0 0 8 none with status := some .good }, seg 1 8 8 8 none], none, none,
      none⟩).table[(0 : Tag)].segmentAt 7 = some { seg 0 0 0 8 none with status := some .good } ∧
    32 ≤ (32 : Byte).toNat ∧ (drive .opened).table[(0 : Tag)].state = .free ∧ (busy (bareEntry .control)).table[(0 : Tag)].state = .control ∧
    (busy (readEntry .forwarded (seg 0 0 0 8 none))).table[(0 : Tag)].kind ≠ some .write ∧
    (busy (writeEntry .forwarded)).table[(0 : Tag)].count ≤ 16 ∧
    (busy ⟨some .write, .forwarded, 0, 8, [{ seg 0 0 0 8 none with received := [7] }], none, none, none⟩).table[(0 : Tag)].segmentAt 7 =
      some { seg 0 0 0 8 none with received := [7] } ∧
    0 ∈ (busy (writeEntry .aborting)).outstanding ∧ (2 : Byte).toNat ∉ (busy (writeEntry .aborting)).outstanding ∧
    64 ≤ (67 : Byte).toNat ∧ (busy (writeEntry .forwarded)).table[(0 : Tag)].kind ≠ some .read ∧
    (∀ g, (busy (readEntry .forwarded (seg 0 0 0 8 none))).table[(0 : Tag)].segment? 0 = some g → g.count ≤ 8) :=
  ⟨fun a => ⟨drive_calm a, drive_free a⟩, busy_calm, by
    refine ⟨by decide, by decide, by decide, by decide, by decide, by decide, by decide, by decide, by decide, by decide, by decide,
      by decide, by decide, ?_⟩
    intro g h
    have e : (busy (readEntry .forwarded (seg 0 0 0 8 none))).table[(0 : Tag)].segment? 0 = some (seg 0 0 0 8 none) := by decide
    rw [e] at h
    cases h
    decide⟩

theorem witness_ReadSectorDeciphered :
    (∀ e, (busy e).Calm) ∧
    0 ∈ (busy (readEntry .forwarded (seg 0 0 0 8 (some 0)))).outstanding ∧
    (busy (readEntry .forwarded (seg 0 0 0 8 (some 0)))).table[(0 : Tag)].segment? 0 = some (seg 0 0 0 8 (some 0)) ∧
    7 < (seg 0 0 0 8 (some 0)).count ∧ (busy (readEntry .forwarded (seg 0 0 0 8 (some 0)))).slots[(0 : RangeIndex)].key = some 0 ∧
    (busy (readEntry .forwarded (seg 0 0 0 8 none))).table[(0 : Tag)].segment? 0 = some (seg 0 0 0 8 none) :=
  ⟨busy_calm, by decide⟩

/-- Two drives that hold one key, and two sectors that differ in their last block. -/
theorem witness_SectorsReadBackAsWritten : (drive .opened).slots[(0 : RangeIndex)].key = some 0 ∧
    (drive .staged).slots[(0 : RangeIndex)].key = some 0 ∧ (seg 0 0 100 8 (some 0)).lba + 7 = (seg 1 3 107 1 (some 0)).lba + 0 ∧
    (zeroSector.set 31 1)[(31 : Fin 32)] ≠ zeroSector[(31 : Fin 32)] ∧
    (∀ i : Fin 32, i ≠ 31 → (zeroSector.set 31 1)[i] = zeroSector[i]) ∧ 2 ^ 48 - 1 < 2 ^ 48 ∧
    zeroSector[(0 : Fin 32)] = zeroSector[(31 : Fin 32)] ∧ 2 ^ 48 - 1 ≠ 0 := by decide

/-- A READ of two segments: the first's last sector has still to pass, the second is outstanding. -/
def twoSegments : State :=
  { busy ⟨some .read, .forwarded, 0, 16, [{ seg 0 0 0 8 (some 0) with unpassed := 1, arrived := some .good }, seg 1 8 8 8 none], none,
      none, none⟩ with readHeld := [⟨0, 7, zeroSector⟩] }

/-- The entry stays while its other segment is unfinished, and no completion goes up (R37, R38). -/
theorem test_segment_passes : (after (.readSectorPassedUpstream 0 7) twoSegments).map (fun s =>
    (s.table[(0 : Tag)].state, s.table[(0 : Tag)].segments.map Segment.status, s.outbound)) =
      some (.forwarded, [some .good, none], [.readData 0 7 zeroSector]) := by decide

theorem witness_ReadSectorPasses :
    (∀ e, (busy e).Calm) ∧
    heldAt 0 7 [⟨0, 7, zeroSector⟩] = some ⟨0, 7, zeroSector⟩ ∧
    (busy (readEntry .forwarded { seg 0 0 0 8 none with unpassed := 2, arrived := some .good })).table[(0 : Tag)].segment? 0 =
      some { seg 0 0 0 8 none with unpassed := 2, arrived := some .good } ∧
    1 < ({ seg 0 0 0 8 none with unpassed := 2 } : Segment).unpassed ∧
    (busy (readEntry .forwarded { seg 0 0 0 8 none with unpassed := 1, arrived := some .mediaError })).table[(0 : Tag)].segment? 0 =
      some { seg 0 0 0 8 none with unpassed := 1, arrived := some .mediaError } ∧
    (∀ u ∈ (readEntry .forwarded { seg 0 0 0 8 none with unpassed := 1, arrived := some .mediaError }).segments,
      if u.subTag = 0 then u = { seg 0 0 0 8 none with unpassed := 1, arrived := some .mediaError } else u.status.isSome = true) ∧
    twoSegments.Calm ∧ heldAt 0 7 twoSegments.readHeld = some ⟨0, 7, zeroSector⟩ ∧
    twoSegments.table[(0 : Tag)].segment? 0 = some { seg 0 0 0 8 (some 0) with unpassed := 1, arrived := some .good } ∧
    (∀ u ∈ twoSegments.table[(0 : Tag)].segments,
      u.subTag ≠ 0 ∨ u = { seg 0 0 0 8 (some 0) with unpassed := 1, arrived := some .good }) ∧
    (∃ u ∈ twoSegments.table[(0 : Tag)].segments, u.subTag ≠ 0 ∧ u.status = none) :=
  ⟨busy_calm, by
    decide⟩

theorem witness_WriteDataGoesDown :
    (∀ e, (busy e).Calm) ∧
    ([⟨1, 3, zeroSector⟩].find? fun x : HeldSector => decide (x.subTag = 1)) = some ⟨1, 3, zeroSector⟩ ∧
    (busy (writeEntry .aborting)).table[(0 : Tag)].segment? 1 = some (seg 1 8 2048 8 (some 2)) ∧
    7 < (seg 1 8 2048 8 (some 2)).count ∧ 7 ∉ (seg 1 8 2048 8 (some 2)).sent ∧ (seg 1 8 2048 8 (some 2)).count ≤ 8 ∧
    7 ∈ ({ seg 1 8 2048 8 none with sent := [7] } : Segment).sent ∧
    (busy (writeEntry .forwarded)).table[(0 : Tag)].state ≠ .aborting :=
  ⟨busy_calm, by decide⟩

/-- The only segment left, under each status, one of two left, and a READ segment with a sector still to pass. -/
theorem witness_CompletionFinishesItsSegment :
    (∀ e, (busy e).Calm) ∧ (oneLeft .opened .loaded).Calm ∧
    (oneLeft .opened .loaded).EndsEntry 0 0 0 (seg 0 0 2048 8 (some 2)) .good ∧
    (oneLeft .opened .loaded).EndsEntry 0 5 0 (seg 0 0 2048 8 (some 2)) .aborted ∧
    (oneLeft .opened .loaded).EndsEntry 0 255 0 (seg 0 0 2048 8 (some 2)) .mediaError ∧
    1 ∈ (busy ⟨some .write, .forwarded, 2040, 16, [{ seg 0 0 2040 8 (some 0) with status := some .good }, seg 1 8 2048 8 (some 2)],
      none, none, none⟩).outstanding ∧
    (∀ u ∈ [{ seg 0 0 2040 8 (some 0) with status := some .good }, seg 1 8 2048 8 (some 2)], u.subTag ≠ 1 → u.status.isSome = true) ∧
    (∃ u ∈ (writeEntry .forwarded).segments, u.subTag ≠ 0 ∧ u.status = none) ∧ 0 ∈ (busy (writeEntry .forwarded)).outstanding ∧
    ((9 : Byte) ≠ 0 ∧ (9 : Byte) ≠ 5) ∧ ({ seg 0 0 0 8 none with status := some .good } : Segment).status = some .good ∧
    0 ∈ (busy (readEntry .forwarded { seg 0 0 0 8 none with unpassed := 1 })).outstanding ∧
    0 < ({ seg 0 0 0 8 none with unpassed := 1 } : Segment).unpassed :=
  ⟨busy_calm, ⟨rfl, rfl, rfl, rfl, rfl, rfl, rfl⟩, oneLeft_ends .opened .loaded 0 .good (.inl ⟨rfl, rfl⟩),
    oneLeft_ends .opened .loaded 5 .aborted (.inr (.inl ⟨rfl, rfl⟩)),
    oneLeft_ends .opened .loaded 255 .mediaError (.inr (.inr ⟨by decide, by decide, rfl⟩)), by decide⟩

theorem witness_StruckEntriesEnd :
    (∀ e, (busy e).Calm) ∧
    0 ∈ (busy (readEntry .aborting (seg 0 0 0 8 none))).outstanding ∧
    (∀ u ∈ (readEntry .aborting (seg 0 0 0 8 none)).segments, u.subTag ≠ 0 → u.status.isSome = true) ∧
    (busy (readEntry .orphaned (seg 0 0 0 8 none))).table[(0 : Tag)].segment? 0 = some (seg 0 0 0 8 none) ∧
    (∃ u ∈ (writeEntry .aborting).segments, u.subTag ≠ 0 ∧ u.status = none) ∧ 0 ∈ (busy (writeEntry .orphaned)).outstanding :=
  ⟨busy_calm, by
    decide⟩

/-- An UNLOCK that has stored its pending view and has yet to hand out its response. -/
def answering : State :=
  { inStage (drive .staged) (.unlock 1) (.answering (.unlocked viewU.capacity 2 0)) with pendingView := some viewU }

set_option maxRecDepth 20000 in
/-- A link reset discards that response and hands the view over (R14). -/
theorem test_link_reset_discards : (after .linkReset answering).map (fun s =>
    (s.access, s.view, s.service, s.outbound)) = some (.opened, some viewU, none, [.acknowledgement .linkReset .good]) := by
  decide

/-- Any other event finds it handed out (R14). -/
theorem test_answer_first : (after .enclosureClosing answering).map (fun s => (s.access, s.service, s.outbound.length)) =
    some (.staged, none, 1) := by decide

/-- A request that awaits its last write, its response to be discarded. -/
def discarded : State :=
  { servedNext with
    queue := []
    service := some ⟨30, 64, .setPolicy 0 0 0 0 0, some (0, 0), .opened, .lastWrite .noFields, true, false⟩ }

theorem witness_LinkResetActs :
    (∀ a, (drive a).Calm ∧ (drive a).FreeTag 31 31) ∧
    (serving .opened 4).Busy ⟨30, 18, .unlock 0, some (0, 0), .opened, .gateCount, false, false⟩ ∧
    Stage.gateCount.awaitsWrite = true ∧
    answering.Busy ⟨30, 18, .unlock 1, some (0, 0), .staged, .answering (.unlocked viewU.capacity 2 0), false, false⟩ ∧
    answering.access = .staged ∧ discarded.service.any (fun v => v.discard && !v.struck) = true ∧ discarded.queue = [] ∧
    discarded.lane = [] ∧ discarded.dataLane = [] ∧ discarded.sessionEnd = false ∧ discarded.heldPowerEnter = false ∧
    discarded.writer = ⟨some ⟨.policy Policy.defaults, [.channel]⟩, []⟩ ∧
    (drive .opened).view = some viewU ∧ (drive .staged).access = .staged ∧
    (drive .blank).access = .blank ∧ (drive .locked).access = .locked ∧ (drive .wiping).access = .wiping ∧
    (drive .fault).access = .fault :=
  ⟨fun a => ⟨drive_calm a, drive_free a⟩, by decide⟩

/-- A part in DORMANT whose wipe waits in a stage, the owner kept or not. -/
def wipeWaits (g : WipeStage) (d : Depth) (keepOwner : Bool) : State :=
  { drive .dormant with
    resume := some .wiping
    engine := ⟨some ⟨g, .order, d, keepOwner, 0, false⟩, none⟩ }

/-- A wake to a session, and to each stage a wipe may wait in, with the owner kept and not. -/
theorem witness_WakesFromDormant : ({ drive .dormant with resume := some .opened } : State).Calm ∧
    ({ drive .dormant with resume := some .opened } : State).access = .dormant ∧
    ({ drive .dormant with resume := some .opened } : State).resume = some .opened ∧ Access.opened ≠ .dormant ∧
    Access.opened ≠ .wiping ∧
    (wipeWaits .sanitizeWait .media false).Calm ∧ (wipeWaits .sanitizeWait .media false).access = .dormant ∧
    (wipeWaits .sanitizeWait .media false).resume = some .wiping ∧
    (wipeWaits .sanitizeWait .media false).engine.job = some ⟨.sanitizeWait, .order, .media, false, 0, false⟩ ∧
    4096 ≤ (wipeWaits .sanitizeWait .media false).capacity ∧ (wipeWaits .sanitizeWait .media false).outstanding = [] ∧
    (wipeWaits .finishWait .keys true).writer = ⟨none, []⟩ ∧ (wipeWaits .finishWait .keys true).Calm ∧
    (wipeWaits .finishWait .keys false).Calm ∧ (wipeWaits .policyWrite .keys false).Calm ∧
    WipeStage.policyWrite ≠ .sanitizeWait ∧ WipeStage.policyWrite ≠ .finishWait := by decide

set_option maxRecDepth 20000 in
/-- At a wake into WIPING the notice is forwarded after the blocks have acted, the Wipe Engine among them (R55). -/
theorem test_wake_forwards_last :
    (after .powerExit (wipeWaits .sanitizeWait .media false)).map (fun s => s.downstream.getLast?) =
      some (some (.notice .powerExit)) := by decide

theorem witness_PowerEnterActs :
    (∀ a, (drive a).Calm ∧ (drive a).FreeTag 31 31) ∧ (∀ e, (busy e).Calm) ∧
    ({ oneLeft .opened .loaded with heldPowerEnter := true } : State).EndsEntry 0 0 0 (seg 0 0 2048 8 (some 2)) .good ∧
    (drive .locked).noneForwarded = true ∧ (drive .opened).view = some viewU ∧
    ({ drive .staged with pendingView := some viewU } : State).noneForwarded = true ∧
    ({ drive .staged with pendingView := some viewU } : State).pendingView = some viewU ∧
    (busy (writeEntry .forwarded)).noneForwarded = false ∧ (busy (writeEntry .forwarded)).InService ∧
    (drive .wiping).access = .wiping ∧ (drive .fault).access = .fault ∧ (drive .dormant).access = .dormant ∧
    ((oneLeft .opened .loaded).entryEnded 0 0 (seg 0 0 2048 8 (some 2)) .good zeroSector).noneForwarded = true ∧
    ({ (oneLeft .opened .loaded) with table := (oneLeft .opened .loaded).table.set 1 (writeEntry .forwarded) } :
      State).noneForwarded = false :=
  ⟨fun a => ⟨drive_calm a, drive_free a⟩, busy_calm, oneLeft_ends .opened .loaded 0 .good (.inl ⟨rfl, rfl⟩), by decide⟩

/-- A held POWER ENTER is applied at the completion that leaves no entry FORWARDED (R170, R171). -/
theorem test_held_power_enter :
    (after (.downstreamCompletion 0 0 zeroSector) { oneLeft .opened .loaded with heldPowerEnter := true }).map (fun s =>
      (s.access, s.resume, s.heldPowerEnter, s.downstream)) = some (.dormant, some .opened, false, [.notice .powerEnter]) := by
  decide

theorem witness_PowerExitOutsideDormant :
    (∀ a, (drive a).Calm ∧ (drive a).FreeTag 31 31) ∧ (∀ e, (busy e).Calm) ∧
    (drive .wiping).access ≠ .dormant ∧
    ({ busy (writeEntry .forwarded) with heldPowerEnter := true } : State).heldPowerEnter = true ∧
    ({ busy (writeEntry .forwarded) with heldPowerEnter := true } : State).noneForwarded = false :=
  ⟨fun a => ⟨drive_calm a, drive_free a⟩, busy_calm, by decide⟩

/-- A wipe of depth KEYS whose record is being written. -/
def wiping : State :=
  { locked with
    access := .wiping
    engine := ⟨some ⟨.purgeWrite, .order, .keys, false, 0, false⟩, none⟩
    writer := ⟨some ⟨.wipe ⟨.purge, some .order, some .keys, some false, none, none⟩, [.engine]⟩, []⟩ }

/-- A wipe just triggered, its record not yet written, is reported with the reason of the last one finished (R86, R128). -/
theorem test_reason_before_record : wiping.report.reason = none ∧
    ({ wiping with copies := { wiping.copies with wipe := ⟨.none, some .duress, none, none, none, some 0⟩ } } : State).report.reason =
      some .duress := by decide

/-- A recorded wipe that keeps the owner and the IMAGE range, its cursor persisted. -/
def keptImage (cursor : Nat) : State :=
  { wiping with
    copies := { wiping.copies with wipe := ⟨.sanitize, some .order, some .media, some true, some cursor, some 0⟩ }
    engine := ⟨some ⟨.sanitizeWait, .order, .media, true, 0, false⟩, none⟩
    writer := ⟨none, []⟩ }

theorem witness_OpenReports :
    (∀ a, (drive a).Calm ∧ (drive a).FreeTag 31 31) ∧
    blockSlot 0 ≠ none ∧ blockSlot noBlock ≠ none ∧ (drive .fault).access ≠ .dormant ∧
    (drive .blank).InService ∧ (drive .opened).copies.wipe.phase = .none ∧
    ({ wiping with copies := { wiping.copies with wipe := ⟨.purge, some .order, some .keys, some false, none, none⟩ } } :
      State).copies.wipe.phase = .purge ∧ wiping.engine.job = some ⟨.purgeWrite, .order, .keys, false, 0, false⟩ ∧
    (keptImage 399999000).copies.wipe.phase = .sanitize ∧ (keptImage 399999000).engine.job.isSome = true ∧
    (keptImage 399999000).engine.sanitize = none ∧ (keptImage 399999000).copies.wipe.cursor = some 399999000 ∧
    (∀ j ∈ (keptImage 0).engine.job, (keptImage 0).excluded j = some ⟨399737856, 262144, 1⟩) :=
  ⟨fun a => ⟨drive_calm a, drive_free a⟩, by decide⟩

/-- With the IMAGE range kept, its length counts neither as done before the frontier is past it nor in the whole (R158). -/
theorem test_progress_kept : (keptImage 0).report.progress = 0 ∧ (keptImage 399737856).report.progress = 100 ∧
    (keptImage 400000000).report.progress = 100 ∧ (keptImage 199868928).report.progress = 50 := by decide

/-- The image view's locks in LOCKED without the latch and with it, and in STAGED (R131). -/
theorem test_view_report : (locked.viewReport = [⟨0, 262144, false, true⟩]) ∧
    (({ locked with latch := true } : State).viewReport = [⟨0, 262144, false, false⟩]) ∧
    (({ locked with access := .staged, latch := true } : State).viewReport = [⟨0, 262144, false, true⟩]) := by decide

theorem witness_SetAttention :
    (∀ a, (drive a).Calm ∧ (drive a).FreeTag 31 31) ∧
    (drive .staged).InService ∧ (drive .wiping).access = .wiping ∧ (drive .fault).access = .fault ∧
    ({ drive .staged with notices := { NoticeSet.empty with wipeDone := true } } : State).notices ≠ NoticeSet.empty :=
  ⟨fun a => ⟨drive_calm a, drive_free a⟩, by decide⟩

theorem witness_TakeOwnershipMakesTheOwner :
    (∀ a, (drive a).Calm ∧ (drive a).FreeTag 31 31) ∧
    blank.Calm ∧ blank.FreeTag 0 0 ∧ blank.access = .blank ∧ blank.writer = ⟨none, []⟩ ∧
    blank.slots[(0 : RangeIndex)].key = some 0 ∧ (drive .opened).access = .opened :=
  ⟨fun a => ⟨drive_calm a, drive_free a⟩, by decide⟩

/-- A drive bound to a platform. -/
def bound (b : BindingPolicy) (d : Digest) : State := withPolicy (drive .locked) ⟨false, 5, 10, 30, .ignore, b, some d, .keys⟩

theorem witness_PresentPlatformCompares : (bound .deny 0).Calm ∧ (bound .deny 0).FreeTag 31 31 ∧ (bound .deny 0).InService ∧
    (bound .deny 0).presented = false ∧
    (bound .deny (Config.tokenDigest 0)).copies.policy.digest = some (Config.tokenDigest 0) ∧
    (bound .wipe (Config.tokenDigest 0 + 1)).copies.policy.digest ≠ some (Config.tokenDigest 0) ∧
    (bound .wipe 0).copies.policy.binding = .wipe ∧ (bound .deny 0).copies.policy.binding = .deny ∧
    (bound .wipe 0).noneForwarded = true ∧ (bound .wipe 0).engine.job = none ∧ (bound .wipe 0).writer = ⟨none, []⟩ ∧
    ({ bound .deny 0 with presented := true } : State).presented = true := by
  refine ⟨by decide, by decide, by decide, by decide, rfl, ?_, by decide, by decide, by decide, by decide, by decide, by decide⟩
  show some (Config.tokenDigest 0 + 1) ≠ some (Config.tokenDigest 0)
  simp

/-- The drive with its SELF TEST running. -/
def testing : State := { drive .opened with service := some ⟨0, 5, .selfTest, none, .opened, .testing, false, false⟩ }

theorem witness_SelfTestRuns :
    (∀ a, (drive a).Calm ∧ (drive a).FreeTag 31 31) ∧
    testing.vector.expected = encipher testing.vector.key testing.vector.tweak testing.vector.plain ∧
    (inStage (oneLeft .opened .loaded) .selfTest .holdTest).EndsEntry 0 0 0 (seg 0 0 2048 8 (some 2)) .good ∧
    blockSlot 7 = some (some 7) ∧ (drive .staged).InService ∧ (drive .wiping).access = .wiping ∧
    testing.power = .running ∧ testing.service = some ⟨0, 5, .selfTest, none, .opened, .testing, false, false⟩ ∧
    testing.access ≠ .dormant ∧ zeroSector = testing.vector.plain ∧ zeroSector.set 31 1 ≠ testing.vector.plain ∧
    (inStage (oneLeft .opened .loaded) .selfTest .holdTest).Busy
      ⟨30, 5, .selfTest, some (0, 0), .opened, .holdTest, false, false⟩ ∧
    ((inStage (oneLeft .opened .loaded) .selfTest .holdTest).entryEnded 0 0 (seg 0 0 2048 8 (some 2)) .good zeroSector).noneForwarded =
      true :=
  ⟨fun a => ⟨drive_calm a, drive_free a⟩, rfl, oneLeft_ends .opened .loaded 0 .good (.inl ⟨rfl, rfl⟩), by decide⟩

/-- A held SELF TEST begins at the completion that leaves no entry FORWARDED (R139). -/
theorem test_held_self_test :
    (after (.downstreamCompletion 0 0 zeroSector) (inStage (oneLeft .opened .loaded) .selfTest .holdTest)).map State.serviceStage =
      some (some .testing) := by decide

theorem witness_GateCountsBeforeItVerifies :
    (∀ a, (drive a).Calm ∧ (drive a).FreeTag 31 31) ∧
    (Instr.unlock 31 ⟨0, 0⟩ 1).capsule? = some (Capsule.request 31 ⟨0, 0⟩ (.unlock 1)) ∧ (Request.unlock 1).wellFormed = true ∧
    Access.locked ∈ [Access.locked, .opened] ∧ Access.staged ∉ [Access.locked, .opened] ∧ (drive .staged).InService ∧
    (drive .blank).InService ∧ Access.blank ∉ [Access.locked, .staged, .opened, .fault] ∧ (drive .wiping).access = .wiping ∧
    (drive .fault).faultCause ≠ some .store ∧ (255 : Byte).toNat = 255 ∧ (7 : Byte).toNat = (7 : SlotIndex).val ∧
    (withPolicy (drive .locked) ⟨true, 5, 10, 0, .ignore, .none, none, .keys⟩).provisioning = .final ∧
    ({ drive .locked with backoff := some 1 } : State).backoff ≠ none ∧
    (bound .deny 0).copies.policy.binding ≠ .none ∧ (bound .deny 0).platform ≠ .matched ∧
    ((drive .locked).markCorrupt 0).copies.credentials[(0 : SlotIndex)].corrupt = true ∧
    (drive .locked).copies.credentials[(0 : SlotIndex)].corrupt = false ∧ (drive .locked).writer = ⟨none, []⟩ :=
  ⟨fun a => ⟨drive_calm a, drive_free a⟩, by
    refine ⟨rfl, by decide⟩⟩

/-- LOCK is served in STAGED and OPEN alone, and in FAULT WIPE alone (R122). -/
theorem test_lock_in_locked : (after (.lock 31 ⟨0, 0⟩ []) (drive .locked)).map State.outbound =
      some [controlCompletion 31 .wrongState 32 .noFields] ∧
    (after (.lock 31 ⟨0, 0⟩ []) (drive .fault)).map State.outbound = some [controlCompletion 31 .fault 32 .noFields] := by decide

/-- A request at the gate, its count's write in progress, under attempt limit 10 with 5 free tries. -/
def atGate (g : Stage) (i : SlotIndex) (n : Counters) : State :=
  { withPolicy (drive .locked) ⟨false, 5, 10, 0, .ignore, .none, none, .keys⟩ with
    service := some ⟨31, 64, .setPolicy 0 0 0 0 0, some (i, 0), .locked, g, false, false⟩
    writer := ⟨some ⟨.counters n, [.channel]⟩, []⟩ }

theorem atGate_calm (g : Stage) (i : SlotIndex) (n : Counters) : (atGate g i n).power = .running ∧
    (atGate g i n).service = some ⟨31, 64, .setPolicy 0 0 0 0 0, some (i, 0), .locked, g, false, false⟩ ∧ (atGate g i n).queue = [] ∧
    (atGate g i n).lane = [] ∧ (atGate g i n).dataLane = [] ∧ (atGate g i n).sessionEnd = false ∧
    (atGate g i n).heldPowerEnter = false ∧ (atGate g i n).writer = ⟨some ⟨.counters n, [.channel]⟩, []⟩ :=
  ⟨rfl, rfl, rfl, rfl, rfl, rfl, rfl, rfl⟩

/-- An EMPTY slot's failure below the limit and at it, and a success. -/
theorem witness_GateFailureCounts :
    (∀ g i n, (atGate g i n).power = .running ∧ (atGate g i n).service = some ⟨31, 64, .setPolicy 0 0 0 0 0, some (i, 0), .locked, g, false, false⟩ ∧
      (atGate g i n).queue = [] ∧ (atGate g i n).lane = [] ∧ (atGate g i n).dataLane = [] ∧ (atGate g i n).sessionEnd = false ∧
      (atGate g i n).heldPowerEnter = false ∧ (atGate g i n).writer = ⟨some ⟨.counters n, [.channel]⟩, []⟩) ∧
    ((atGate .gateCount 7 ⟨10, 0⟩).credential 7).verifies 0 = false ∧
    (atGate .gateCount 7 ⟨10, 0⟩).copies.policy.attemptLimit ≤ 10 ∧ (atGate .gateCount 7 ⟨10, 0⟩).noneForwarded = true ∧
    (atGate .gateCount 7 ⟨10, 0⟩).engine.job = none ∧ ¬ (atGate .gateCount 7 ⟨9, 0⟩).copies.policy.attemptLimit ≤ 9 ∧
    (atGate .gateCount 7 ⟨6, 0⟩).copies.policy.freeTries < 6 ∧ ¬ (atGate .gateCount 7 ⟨5, 0⟩).copies.policy.freeTries < 5 :=
  ⟨atGate_calm, by
    decide⟩

theorem witness_GateResetsThenTestsTheKind :
    (∀ g i n, (atGate g i n).power = .running ∧ (atGate g i n).service = some ⟨31, 64, .setPolicy 0 0 0 0 0, some (i, 0), .locked, g, false, false⟩ ∧
      (atGate g i n).queue = [] ∧ (atGate g i n).lane = [] ∧ (atGate g i n).dataLane = [] ∧ (atGate g i n).sessionEnd = false ∧
      (atGate g i n).heldPowerEnter = false ∧ (atGate g i n).writer = ⟨some ⟨.counters n, [.channel]⟩, []⟩) ∧
    ((atGate .gateCount 0 ⟨1, 0⟩).credential 0).verifies 0 = true ∧
    ¬ ((0 : SlotIndex) = 0 ∧ (atGate .gateReset 0 ⟨0, 0⟩).lacksGlobalWrap = true) ∧
    ((atGate .gateReset 1 ⟨0, 0⟩).credential 1).kind ∉ [CredentialKind.owner] ∧
    ((atGate .gateReset 0 ⟨0, 0⟩).credential 0).kind ∈ [CredentialKind.owner] :=
  ⟨atGate_calm, ⟨decide_eq_true rfl, by decide, by decide, by decide⟩⟩

/-- The WIPE credential may not CHANGE SECRET, and U may not WIPE (R108, R117, R142). -/
theorem test_kind_refused :
    (after .storeWriteCompletion { atGate .gateReset 2 ⟨0, 0⟩ with
      service := some ⟨31, 20, .changeSecret 0, some (2, 0), .locked, .gateReset, false, false⟩ }).map State.outbound =
      some [controlCompletion 31 .notPermitted 20 .noFields] ∧
    (after .storeWriteCompletion { atGate .gateReset 1 ⟨0, 0⟩ with
      service := some ⟨31, 81, .wipe, some (1, 0), .locked, .gateReset, false, false⟩ }).map State.outbound =
      some [controlCompletion 31 .notPermitted 81 .noFields] := by decide

/-- A request at stage 7 of an owner whose only wrap for range 0 is stale. -/
def stale : State :=
  { atGate .gateReset 0 ⟨0, 0⟩ with
    copies := { (atGate .gateReset 0 ⟨0, 0⟩).copies with
      credentials := (drive .locked).copies.credentials.set 0 ⟨some (credentialOf .owner [wrapOf 0 9]), false⟩ } }

theorem witness_OwnerGetsTheGlobalWrap : stale.copies.credentials[(0 : SlotIndex)].record = some (credentialOf .owner [wrapOf 0 9]) ∧
    stale.service = some ⟨31, 64, .setPolicy 0 0 0 0 0, some (0, 0), .locked, .gateReset, false, false⟩ ∧ stale.power = .running ∧
    stale.writer = ⟨some ⟨.counters ⟨0, 0⟩, [.channel]⟩, []⟩ ∧ (credentialOf .owner [wrapOf 0 9]).kind = .owner ∧
    (credentialOf .owner [wrapOf 0 9]).salt = some 0 ∧
    ∀ w ∈ (credentialOf .owner [wrapOf 0 9]).wraps, w.range = 0 → w.generation ≠ layout17[(0 : RangeIndex)].generation := by
  refine ⟨rfl, rfl, rfl, rfl, rfl, rfl, ?_⟩
  intro w h _
  have e : w = wrapOf 0 9 := by simpa [credentialOf] using h
  subst e
  show (9 : Generation) ≠ 0
  decide

/-- The drive with slot 2 marked CORRUPT by a wrap mismatch and slot 3 found torn by the scan. -/
def torn (a : Access) : State :=
  { drive a with copies := { (drive a).copies with
      credentials := ((drive a).copies.credentials.set 2 ⟨some (credentialOf .wipe []), true⟩).set 3 ⟨none, true⟩ } }

theorem torn_ready : (torn .locked).Ready 31 31 ⟨0, 0⟩ 0 := by
  have n : ¬ ((0 : SlotIndex) = 0 ∧ (torn .locked).lacksGlobalWrap = true) := by decide
  exact ⟨⟨rfl, rfl, rfl, rfl, rfl, rfl, rfl⟩, ⟨rfl, rfl⟩, rfl, rfl, rfl, decide_eq_true rfl, rfl, n⟩

theorem witness_OwnerReports :
    (∀ a, (drive a).Ready 31 31 ⟨0, 0⟩ 0 ∧ (drive a).Ready 31 31 ⟨1, 0⟩ 1 ∧ (drive a).Ready 31 31 ⟨2, 0⟩ 2) ∧
    (torn .locked).Ready 31 31 ⟨0, 0⟩ 0 ∧
    ((drive .locked).credential 0).kind = .owner ∧ (drive .locked).access = .locked ∧
    (drive .locked).copies.credentials[(1 : SlotIndex)].corrupt = false ∧
    ((drive .locked).copies.credentials[(1 : SlotIndex)].record.map Credential.state = some (some .active)) ∧
    (torn .locked).copies.credentials[(3 : SlotIndex)].record = none ∧
    (torn .locked).copies.credentials[(2 : SlotIndex)].corrupt = true ∧
    (torn .locked).copies.credentials[(2 : SlotIndex)].record.isSome = true :=
  ⟨drive_ready, torn_ready, by decide⟩

/-- The slots' reports: stale wraps are left out, a slot marked CORRUPT reports its kind, and one the scan found torn does not
(R133). -/
theorem test_credentials_report : (torn .locked).copies.layout.credentialReport ⟨some (credentialOf .user [wrapOf 0 0, wrapOf 2 0]), false⟩ =
      ⟨some .user, some .active, [0]⟩ ∧
    (torn .locked).copies.layout.credentialReport (torn .locked).copies.credentials[(2 : SlotIndex)] = ⟨some .wipe, some .corrupt, []⟩ ∧
    (torn .locked).copies.layout.credentialReport (torn .locked).copies.credentials[(3 : SlotIndex)] = ⟨none, some .corrupt, []⟩ :=
  ⟨rfl, rfl, rfl⟩

/-- U's wraps come back under U's secret. -/
theorem drive_unwrap (a : Access) : (drive a).unwrapCurrent 1 0 = some [⟨0, 0, 0⟩, ⟨2, 1, 0⟩] := by
  have h : (drive a).copies.layout.currentWraps ((drive a).credential 1).wraps = wrapsU := rfl
  have g : ((drive a).credential 1).wrappingKey 0 = Config.wrappingKey 0 0 := rfl
  unfold State.unwrapCurrent
  rw [h, g]
  simp [wrapsU, wrapOf, unwrapAll, unwrapKey, wrapKey]

/-- The drive with one spoilt wrap in U's slot. -/
def spoilt (a : Access) : State :=
  { drive a with copies := { (drive a).copies with
      credentials := (drive a).copies.credentials.set 1
        ⟨some (credentialOf .user [{ wrapOf 0 0 with check := Config.wrapCheck (Config.wrappingKey 0 0) 0 + 1 }]), false⟩ } }

theorem spoilt_unwrap (a : Access) : (spoilt a).unwrapCurrent 1 0 = none := by
  have h : (spoilt a).copies.layout.currentWraps ((spoilt a).credential 1).wraps =
      [{ wrapOf 0 0 with check := Config.wrapCheck (Config.wrappingKey 0 0) 0 + 1 }] := rfl
  have g : ((spoilt a).credential 1).wrappingKey 0 = Config.wrappingKey 0 0 := rfl
  unfold State.unwrapCurrent
  rw [h, g]
  simp [wrapOf, unwrapAll, unwrapKey, wrapKey]

theorem spoilt_ready (a : Access) : (spoilt a).Ready 31 31 ⟨1, 0⟩ 1 :=
  ⟨⟨rfl, rfl, rfl, rfl, rfl, rfl, rfl⟩, ⟨rfl, rfl⟩, rfl, rfl, rfl, decide_eq_true rfl, rfl, fun h => absurd h.1 (by decide)⟩

theorem witness_UnlockOpensTheSession :
    (∀ a, (drive a).Ready 31 31 ⟨0, 0⟩ 0 ∧ (drive a).Ready 31 31 ⟨1, 0⟩ 1 ∧ (drive a).Ready 31 31 ⟨2, 0⟩ 2) ∧ (∀ a, (drive a).unwrapCurrent 1 0 = some [⟨0, 0, 0⟩, ⟨2, 1, 0⟩]) ∧ (∀ a, (spoilt a).Ready 31 31 ⟨1, 0⟩ 1 ∧ (spoilt a).unwrapCurrent 1 0 = none) ∧
    ((drive .locked).credential 1).kind = .user ∧ (drive .locked).copies.policy.binding = .none ∧
    ([⟨0, 0, 0⟩, ⟨2, 1, 0⟩].map RangeKey.range).Nodup ∧ (2 : Byte) ≠ 0 ∧ (2 : Byte) ≠ 1 ∧ ((spoilt .locked).credential 1).kind = .user ∧
    layout17[(3 : RangeIndex)].concealable = true ∧ (3 : RangeIndex) ∉ layout17.revealed wrapsU ∧
    answering.Busy ⟨30, 18, .unlock 1, some (0, 0), .staged, .answering (.unlocked viewU.capacity 2 0), false, false⟩ ∧
    answering.queue = [] ∧ answering.pending = [] ∧ Instr.enclosureClosing ≠ .linkReset :=
  ⟨drive_ready, drive_unwrap, fun a => ⟨spoilt_ready a, spoilt_unwrap a⟩, by decide⟩

/-- An UNLOCK by U sent while a POWER ENTER was held, its counts being reset after the hold's end locked range 2 (R181). -/
def dormantUnlock : State :=
  { drive .dormant with
    resume := some .opened
    slots := (drive .dormant).slots.set 2 KeySlot.empty
    locks := (drive .dormant).locks.set 2 Locks.both
    table := (drive .dormant).table.set 30 Entry.ofControl
    service := some ⟨30, 18, .unlock 0, some (1, 0), .opened, .gateReset, false, false⟩
    writer := ⟨some ⟨.counters ⟨0, 0⟩, [.channel]⟩, []⟩ }

theorem dormantUnlock_unwrap : dormantUnlock.unwrapCurrent 1 0 = some [⟨0, 0, 0⟩, ⟨2, 1, 0⟩] := drive_unwrap .dormant

theorem witness_UnlockReloadsInOpen :
    (∀ a, (drive a).Ready 31 31 ⟨0, 0⟩ 0 ∧ (drive a).Ready 31 31 ⟨1, 0⟩ 1 ∧ (drive a).Ready 31 31 ⟨2, 0⟩ 2) ∧ (∀ a, (drive a).unwrapCurrent 1 0 = some [⟨0, 0, 0⟩, ⟨2, 1, 0⟩]) ∧
    (drive .opened).view = some viewU ∧ (drive .opened).access = .opened ∧
    (drive .staged).access = .staged ∧ (drive .blank).access = .blank ∧
    dormantUnlock.unwrapCurrent 1 0 = some [⟨0, 0, 0⟩, ⟨2, 1, 0⟩] ∧
    dormantUnlock.Busy ⟨30, 18, .unlock 0, some (1, 0), .opened, .gateReset, false, false⟩ ∧ dormantUnlock.queue = [] ∧
    dormantUnlock.access = .dormant ∧ dormantUnlock.resume = some .opened ∧ dormantUnlock.view = some viewU ∧
    dormantUnlock.writer = ⟨some ⟨.counters ⟨0, 0⟩, [.channel]⟩, []⟩ ∧ (dormantUnlock.credential 1).kind = .user ∧
    ([⟨0, 0, 0⟩, ⟨2, 1, 0⟩].map RangeKey.range).Nodup :=
  ⟨drive_ready, drive_unwrap, by decide, by decide, by decide, by decide, dormantUnlock_unwrap, by decide⟩

set_option maxRecDepth 20000 in
/-- Range 2, which holds LOW_POWER, is counted as loaded and stays both-locked with its slot EMPTY (R181). -/
theorem test_dormant_unlock :
    (dormantUnlock.unlockOpen 1 0).slots[(2 : RangeIndex)] = KeySlot.empty ∧
    (dormantUnlock.unlockOpen 1 0).locks[(2 : RangeIndex)] = Locks.both ∧
    (dormantUnlock.unlockOpen 1 0).slots[(0 : RangeIndex)].state = .loaded ∧
    (dormantUnlock.unlockOpen 1 0).access = .dormant := by
  unfold State.unlockOpen
  rw [dormantUnlock_unwrap]
  decide

/-- A WIPE by the WIPE credential, its counts being reset, in a part that has entered DORMANT. -/
def dormantWipe : State :=
  { drive .dormant with
    resume := some .opened
    table := (drive .dormant).table.set 30 Entry.ofControl
    service := some ⟨30, 81, .wipe, some (2, 0), .opened, .gateReset, false, false⟩
    writer := ⟨some ⟨.counters ⟨0, 0⟩, [.channel]⟩, []⟩ }

/-- A duress UNLOCK in the same place. -/
def dormantDuress : State :=
  { dormantWipe with service := some ⟨30, 18, .unlock 0, some (2, 0), .opened, .gateReset, false, false⟩ }

/-- A part in FAULT whose wipe record holds a wipe, its job at rest, the owner kept or not. -/
def recorded (cause : FaultCause) (x : WipeRecord) (keepOwner : Bool) : State :=
  { drive .fault with
    faultCause := some cause
    copies := { (drive .fault).copies with wipe := x }
    engine := ⟨some ⟨.recorded, .order, .media, keepOwner, 0, false⟩, none⟩ }

theorem recorded_ready (x : WipeRecord) (k : Bool) : (recorded .selfTest x k).Ready 31 31 ⟨2, 0⟩ 2 :=
  ⟨⟨rfl, rfl, rfl, rfl, rfl, rfl, rfl⟩, ⟨rfl, rfl⟩, rfl, rfl, rfl, decide_eq_true rfl, rfl, fun h => absurd h.1 (by decide)⟩

/-- A part in FAULT with cause SELF_TEST and no wipe. -/
def selfTestFault : State := { drive .fault with faultCause := some .selfTest }

theorem selfTestFault_ready : selfTestFault.Ready 31 31 ⟨2, 0⟩ 2 :=
  ⟨⟨rfl, rfl, rfl, rfl, rfl, rfl, rfl⟩, ⟨rfl, rfl⟩, rfl, rfl, rfl, decide_eq_true rfl, rfl, fun h => absurd h.1 (by decide)⟩

/-- The layout that a wipe of depth MEDIA writes over that of section 1.7. -/
def wipedLayout (keepOwner : Bool) : Layout := (⟨.purgeWrite, .order, .media, keepOwner, 0, false⟩ : WipeJob).layout layout17

theorem witness_WipeBegins :
    (∀ a, (drive a).Ready 31 31 ⟨0, 0⟩ 0 ∧ (drive a).Ready 31 31 ⟨1, 0⟩ 1 ∧ (drive a).Ready 31 31 ⟨2, 0⟩ 2) ∧
    (drive .opened).engine.job = none ∧ (drive .opened).noneForwarded = true ∧
    ((drive .opened).credential 2).kind = .wipe ∧ ({ drive .fault with faultCause := some .store } : State).Calm ∧
    ({ drive .fault with faultCause := some .store } : State).FreeTag 31 31 ∧
    ({ drive .fault with faultCause := some .store } : State).writer = ⟨none, []⟩ ∧ blockSlot 255 ≠ none ∧
    dormantWipe.Busy ⟨30, 81, .wipe, some (2, 0), .opened, .gateReset, false, false⟩ ∧ dormantWipe.queue = [] ∧
    dormantWipe.access = .dormant ∧ dormantWipe.engine.job = none ∧ dormantWipe.noneForwarded = true ∧
    dormantWipe.writer = ⟨some ⟨.counters ⟨0, 0⟩, [.channel]⟩, []⟩ ∧ (dormantWipe.credential 2).kind = .wipe ∧
    dormantDuress.Busy ⟨30, 18, .unlock 0, some (2, 0), .opened, .gateReset, false, false⟩ ∧
    (drive .locked).keepOwner = false ∧
    (withPolicy (drive .locked) ⟨true, 5, 10, 0, .ignore, .none, none, .keys⟩).keepOwner = true :=
  ⟨drive_ready, by decide⟩

/-- WIPE in FAULT with cause SELF_TEST, and with a recorded wipe of either phase and under either cause. -/
theorem witness_WipeBegins_fault :
    (selfTestFault.Ready 31 31 ⟨2, 0⟩ 2 ∧ ∀ x k, (recorded .selfTest x k).Ready 31 31 ⟨2, 0⟩ 2) ∧
    selfTestFault.access = .fault ∧ selfTestFault.engine.job = none ∧ selfTestFault.noneForwarded = true ∧
    (selfTestFault.credential 2).kind = .wipe ∧
    (∀ k, (recorded .store ⟨.purge, some .order, some .media, some k, none, none⟩ k).Calm) ∧
    (recorded .store ⟨.purge, some .order, some .media, some false, none, none⟩ false).keepOwner = false ∧
    (recorded .store ⟨.purge, some .order, some .media, some false, none, none⟩ false).writer = ⟨none, []⟩ ∧
    (recorded .store ⟨.sanitize, some .order, some .media, some false, some 4096, some 0⟩ false).copies.wipe.cursor = some 4096 ∧
    4096 + 4096 ≤ (recorded .store ⟨.sanitize, some .order, some .media, some false, some 4096, some 0⟩ false).capacity ∧
    (recorded .store ⟨.sanitize, some .order, some .media, some false, some 4096, some 0⟩ false).outstanding = [] ∧
    (∀ k, ∀ q : RangeIndex, (wipedLayout k)[q] =
      if q = 0 then { RangeEntry.global with generation := layout17[q].generation + 1 }
      else if k = true ∧ Depth.media ≠ .mediaAndImage ∧ layout17[q].defined = true ∧ layout17[q].image = true
        then { layout17[q] with generation := layout17[q].generation + 1 }
      else { RangeEntry.undefined with generation := layout17[q].generation + 1 }) :=
  ⟨⟨selfTestFault_ready, recorded_ready⟩, by decide⟩

set_option maxRecDepth 20000 in
/-- WIPE in FAULT with a recorded wipe goes on with the recorded reason and depth (R143). -/
theorem test_wipe_resumed :
    (after (.wipe 31 ⟨255, 0⟩) (recorded .store ⟨.purge, some .order, some .media, some false, none, none⟩ false)).map (fun s =>
      (s.access, s.outbound, s.engine.job.map WipeJob.stage)) =
      some (.wiping, [controlCompletion 31 .good 81 (.wipe .order .media)], some .layoutWrite) := by decide

set_option maxRecDepth 20000 in
/-- It leaves the part in DORMANT with resume state WIPING (R161). -/
theorem test_dormant_wipe : (after .storeWriteCompletion dormantWipe).map (fun s => (s.access, s.resume, s.engine.job.isSome)) =
    some (.dormant, some .wiping, true) := by decide

/-- A wipe whose record is being written, of any depth, the owner kept or not. -/
def wipeOf (d : Depth) (keepOwner : Bool) : State :=
  { wiping with
    engine := ⟨some ⟨.purgeWrite, .order, d, keepOwner, 0, false⟩, none⟩
    writer := ⟨some ⟨.wipe ⟨.purge, some .order, some d, some keepOwner, none, none⟩, [.engine]⟩, []⟩ }

/-- A wipe at its finish: the given write in progress, slot 0 BLANK, triggered in FAULT or not. -/
def finishing (g : WipeStage) (keepOwner fault : Bool) (c : Content) : State :=
  { wiping with
    copies := { wiping.copies with
      credentials := wiping.copies.credentials.set 0 ⟨some (Credential.blank manufacturedDeviceWrap), false⟩ }
    engine := ⟨some ⟨g, .order, .keys, keepOwner, 0, fault⟩, none⟩
    writer := ⟨some ⟨c, [.engine]⟩, []⟩ }

theorem witness_WipeOfKeysEndsBlank : wiping.Calm ∧ wiping.access = .wiping ∧ wiping.NoKeys ∧
    (∀ q : RangeIndex, wiping.locks[q] = Locks.both) ∧
    (∀ d k, (wipeOf d k).Calm ∧ (wipeOf d k).access = .wiping ∧ (wipeOf d k).outstanding = [] ∧ 4096 ≤ (wipeOf d k).capacity ∧
      (wipeOf d k).copies.credentials[(0 : SlotIndex)].record = some (credentialOf .owner wrapsR)) ∧
    (wipedLayout true)[(1 : RangeIndex)].image = true ∧
    (wipedLayout true)[(1 : RangeIndex)].extent = some (399737856, 262144) ∧ 4096 < 399737856 ∧
    (∀ q : RangeIndex, q ≠ 1 → (wipedLayout true)[q].image = false) ∧ (credentialOf .owner wrapsR).kind = .owner ∧
    (∀ g k f c, (finishing g k f c).Calm) ∧
    (∀ g k f c, (finishing g k f c).copies.credentials[(0 : SlotIndex)].record = some (Credential.blank manufacturedDeviceWrap)) ∧
    (Credential.blank manufacturedDeviceWrap).kind = .blank ∧
    (Credential.blank manufacturedDeviceWrap).wraps = [manufacturedDeviceWrap] ∧
    unwrapKey wiping.store.identity.deviceKey manufacturedDeviceWrap = some 0 := by
  refine ⟨by decide, by decide, by decide, by decide, fun d k => ⟨⟨rfl, rfl, rfl, rfl, rfl, rfl, rfl⟩, rfl, rfl, ?_, rfl⟩,
    by decide, by decide, by decide, by decide, rfl, fun _ _ _ _ => ⟨rfl, rfl, rfl, rfl, rfl, rfl, rfl⟩, fun _ _ _ _ => rfl, rfl, rfl, ?_⟩
  · show 4096 ≤ 400000000
    decide
  · simp [unwrapKey, manufacturedDeviceWrap, wiping, locked, drive, State.reset, State.unpowered, Store.manufactured,
      manufacturedDeviceKey, manufacturedGlobalKey]

/-- A wipe that keeps the owner ends in LOCKED, one triggered in FAULT with cause SELF_TEST in that FAULT (R140, R150). -/
theorem test_wipe_ends :
    (after .storeWriteCompletion (finishing .finishNone true false (.wipe ⟨.none, some .order, none, none, none, some 0⟩))).map
      (fun s => (s.access, s.notices.wipeDone)) = some (.locked, true) ∧
    (after .storeWriteCompletion (finishing .finishNone false true (.wipe ⟨.none, some .order, none, none, none, some 0⟩))).map
      (fun s => (s.access, s.faultCause)) = some (.fault, some .selfTest) := by decide

/-- A sanitize with its steps on 64 and 65 still ISSUED. -/
def sanitizing : State :=
  { locked with
    access := .wiping
    outstanding := [64, 65]
    engine := ⟨some ⟨.sanitizing, .order, .media, false, 0, false⟩,
      some ⟨2048, [⟨0, 1024, 64, .issued, false⟩, ⟨1024, 1024, 65, .issued, false⟩], 0⟩⟩ }

/-- A sanitize whose last step, with one MEDIA_ERROR behind it, is still ISSUED; the owner is kept or not. -/
def lastStep (keepOwner : Bool) : State :=
  { locked with
    access := .wiping
    outstanding := [64]
    engine := ⟨some ⟨.sanitizing, .order, .mediaAndImage, keepOwner, 0, false⟩,
      some ⟨400000000, [⟨399999000, 1000, 64, .issued, true⟩, ⟨399997976, 1024, 65, .done, false⟩], 399999000⟩⟩ }

theorem witness_SanitizeStepCompletes : sanitizing.Calm ∧ 64 ≤ (65 : Byte).toNat ∧ (65 : Byte).toNat ∈ sanitizing.outstanding ∧
    ([⟨0, 1024, 64, .issued, false⟩, ⟨1024, 1024, 65, .issued, false⟩].find? fun q : SanitizeStep =>
      decide (q.subTag = 65) && decide (q.state = .issued)) = some ⟨1024, 1024, 65, .issued, false⟩ ∧ 2048 < sanitizing.capacity ∧
    (∃ q ∈ [(⟨0, 1024, 64, .issued, false⟩ : SanitizeStep)], q.subTag ≠ 65 ∧ q.state = .issued ∧ q.start ≤ 0) ∧
    sanitizing.excluded ⟨.sanitizing, .order, .media, false, 0, false⟩ = none ∧
    sanitizing.excluded ⟨.sanitizing, .order, .media, true, 0, false⟩ = some ⟨399737856, 262144, 1⟩ ∧
    sanitizing.writer = ⟨none, []⟩ ∧ (∀ q ∈ [(⟨1024, 1024, 65, .issued, false⟩ : SanitizeStep)], q.subTag ≠ 64 → 1024 ≤ q.start) ∧
    (lastStep false).Calm ∧ (lastStep false).capacity ≤ 400000000 ∧ (lastStep true).access = .wiping ∧
    (∀ q ∈ [(⟨399999000, 1000, 64, .issued, true⟩ : SanitizeStep), ⟨399997976, 1024, 65, .done, false⟩],
      q.subTag ≠ 64 → q.state = .done) ∧ (399999000 < 400000000) := by decide

/-- The step at the frontier DONE, the frontier rises to the next start still ISSUED (R156). -/
theorem test_frontier_rises : (after (.downstreamCompletion 64 0 zeroSector) sanitizing).map (fun s =>
    (s.engine.sanitize.map Sanitize.frontier, s.writer.current.isSome)) = some (some 1024, true) := by decide

/-- A second MEDIA_ERROR counts the step's length as skipped, and the last step ends the sanitize (R155, R157). -/
theorem test_last_step : (after (.downstreamCompletion 64 9 zeroSector) (lastStep true)).map (fun s =>
    s.engine.job.map fun j => (j.skipped, j.stage)) = some (some (1000, .finishNone)) := by decide

theorem witness_SetCredentialWritesTheSlot :
    (∀ a, (drive a).Ready 31 31 ⟨0, 0⟩ 0 ∧ (drive a).Ready 31 31 ⟨1, 0⟩ 1 ∧ (drive a).Ready 31 31 ⟨2, 0⟩ 2) ∧
    (7 : Byte).toNat = (7 : SlotIndex).val ∧ [(0 : Byte), 2, 15].length ≤ 16 ∧
    (∀ b ∈ [(0 : Byte), 2, 15], b.toNat < 16) ∧ (allRanges.filter fun r => decide (CredentialKind.user = .user) &&
      ([(0 : Byte), 2, 15].any fun b => decide (b.toNat = r.val)) && (drive .locked).copies.layout[r].defined &&
      !(drive .locked).copies.layout[r].image && ((drive .locked).credential 0).wraps.any fun w =>
        decide (w.range = r) && decide (w.generation = (drive .locked).copies.layout[r].generation)) = [0, 2] ∧
    unwrapAll (((drive .locked).credential 0).wrappingKey 0) [wrapOf 0 0, wrapOf 2 1] = some [⟨0, 0, 0⟩, ⟨2, 1, 0⟩] ∧
    (((drive .locked).copies.layout.currentWraps ((drive .locked).credential 0).wraps).filter
      fun w => [(0 : RangeIndex), 2].contains w.range) = [wrapOf 0 0, wrapOf 2 1] ∧
    16 < (List.replicate 17 (0 : Byte)).length ∧ 16 ≤ (16 : Byte).toNat ∧ 8 ≤ (8 : Byte).toNat :=
  ⟨drive_ready, by
    refine ⟨by decide, by decide, by decide, by decide, ?_, rfl, by decide, by decide, by decide⟩
    have g : ((drive .locked).credential 0).wrappingKey 0 = Config.wrappingKey 0 0 := rfl
    rw [g]
    simp [wrapOf, unwrapAll, unwrapKey, wrapKey]⟩

theorem witness_ChangeSecretRewraps :
    (∀ a, (drive a).Ready 31 31 ⟨0, 0⟩ 0 ∧ (drive a).Ready 31 31 ⟨1, 0⟩ 1 ∧ (drive a).Ready 31 31 ⟨2, 0⟩ 2) ∧ (∀ a, (drive a).unwrapCurrent 1 0 = some [⟨0, 0, 0⟩, ⟨2, 1, 0⟩]) ∧ (∀ a, (spoilt a).Ready 31 31 ⟨1, 0⟩ 1 ∧ (spoilt a).unwrapCurrent 1 0 = none) ∧
    ((drive .staged).credential 1).kind = .user ∧ ((spoilt .opened).credential 1).kind = .user :=
  ⟨drive_ready, drive_unwrap, fun a => ⟨spoilt_ready a, spoilt_unwrap a⟩, by
    decide⟩

theorem raised_ready : ((drive .opened).raiseUse 2).Ready 31 31 ⟨0, 0⟩ 0 := by
  have n : ¬ ((0 : SlotIndex) = 0 ∧ ((drive .opened).raiseUse 2).lacksGlobalWrap = true) := by decide
  exact ⟨⟨rfl, rfl, rfl, rfl, rfl, rfl, rfl⟩, ⟨rfl, rfl⟩, rfl, rfl, rfl, decide_eq_true rfl, rfl, n⟩

/-- The ranges that U's wraps reveal. -/
def revealsU (r : RangeIndex) : Bool := ((drive .opened).credential 1).wraps.any fun w =>
  decide (w.range = r) && decide (w.generation = (drive .opened).copies.layout[r].generation)

/-- The part with one WRITE left and a request held, before a link reset. -/
def heldReset (a : Access) (r : Request) (g : Stage) (ends : Bool) : State :=
  inStage { oneLeft a .draining with sessionEnd := ends } r g

/-- LOCK of a range without a use, and with one; END SESSION with every slot free, and with a use left. -/
theorem witness_LockAndEndSessionDrain :
    (∀ a, (drive a).Ready 31 31 ⟨0, 0⟩ 0 ∧ (drive a).Ready 31 31 ⟨1, 0⟩ 1 ∧ (drive a).Ready 31 31 ⟨2, 0⟩ 2) ∧ ((drive .opened).raiseUse 2).Ready 31 31 ⟨0, 0⟩ 0 ∧
    (∀ r g, (inStage (oneLeft .opened .draining) r g).EndsEntry 0 0 0 (seg 0 0 2048 8 (some 2)) .good) ∧
    (allRanges.filter fun r => if [(2 : Byte)].isEmpty then decide (((drive .opened).credential 0).kind = .owner) || revealsU r
      else [(2 : Byte)].any fun b => decide (b.toNat = r.val)) = [2] ∧
    (allRanges.filter fun r => if ([] : List Byte).isEmpty then decide (((drive .opened).credential 1).kind = .owner) || revealsU r
      else ([] : List Byte).any fun b => decide (b.toNat = r.val)) = [0, 2] ∧
    ((drive .opened).credential 1).kind = .user ∧ (∀ r : RangeIndex, (3 : Byte).toNat = r.val → revealsU r = false) ∧
    (∀ r : RangeIndex, (16 : Byte).toNat = r.val → revealsU r = false) ∧ (2 : Byte).toNat = (2 : RangeIndex).val ∧ revealsU 2 = true ∧
    16 < (List.replicate 17 (2 : Byte)).length ∧ 16 ≤ (16 : Byte).toNat ∧
    ((drive .opened).slotsBoth fun r => [(2 : RangeIndex)].contains r)[(2 : RangeIndex)].state = .empty ∧
    ((busy (writeEntry .forwarded)).raiseUse 2).slots[(2 : RangeIndex)].bothLocked.state ≠ .empty ∧
    (∀ r : RangeIndex, (drive .opened).allLocked.slots[r].state = .empty) ∧
    ((drive .opened).raiseUse 2).allLocked.slots[(2 : RangeIndex)].state ≠ .empty ∧
    (inStage (oneLeft .opened .draining) (.lock [2]) (.holdLock [2])).Busy
      ⟨30, 32, .lock [2], some (0, 0), .opened, .holdLock [2], false, false⟩ ∧
    (∀ r : RangeIndex, ((inStage (oneLeft .opened .draining) (.lock [2]) (.holdLock [2])).entryEnded 0 0
      (seg 0 0 2048 8 (some 2)) .good zeroSector).slots[r].state = .empty) ∧
    ({ oneLeft .opened .draining with service := none, sessionEnd := false } : State).Calm ∧
    (inStage { oneLeft .opened .draining with sessionEnd := true } .endSession .holdEndSession).service.any
      (fun v => decide (v.stage = .holdEndSession) && !v.discard) = true ∧
    ((inStage ((oneLeft .opened .draining).raiseUse 2) (.lock [2]) (.holdLock [2])).entryEnded 0 0
      (seg 0 0 2048 8 (some 2)) .good zeroSector).slots[(2 : RangeIndex)].state ≠ .empty :=
  ⟨drive_ready, raised_ready, fun _ _ => oneLeft_ends .opened .draining 0 .good (.inl ⟨rfl, rfl⟩), by decide⟩

/-- The holds that a link reset ends: each with its slot in use before and EMPTY after the traffic is struck. -/
theorem witness_LockAndEndSessionDrain_reset :
    (∀ a r g e, (heldReset a r g e).power = .running ∧ (heldReset a r g e).lane = [] ∧ (heldReset a r g e).dataLane = [] ∧
      (heldReset a r g e).heldPowerEnter = false ∧ (heldReset a r g e).sessionEnd = e ∧ (heldReset a r g e).writer = ⟨none, []⟩ ∧
      (heldReset a r g e).slots[(2 : RangeIndex)].state = .draining ∧ (heldReset a r g e).access = a) ∧
    (∀ e, ∀ r : RangeIndex, (heldReset .opened .endSession .holdEndSession e).afterStrike.slots[r].state = .empty) ∧
    (∀ r : RangeIndex, (heldReset .staged (.lock [2]) (.holdLock [2]) false).afterStrike.slots[r].state = .empty) ∧
    (heldReset .opened (.eraseRange 2) (.holdErase 2) false).afterStrike.slots[(2 : RangeIndex)].state = .empty ∧
    (heldReset .opened .selfTest .holdTest false).noneForwarded = false ∧
    (heldReset .opened .selfTest .holdTest false).view = some viewU :=
  ⟨fun _ _ _ _ => ⟨rfl, rfl, rfl, rfl, rfl, rfl, rfl, rfl⟩, by decide⟩

set_option maxRecDepth 20000 in
/-- A link reset ends a held LOCK, whose response goes, and a pending session end (R72, R75, R124). -/
theorem test_reset_ends_holds :
    (after .linkReset (heldReset .opened (.lock [2]) (.holdLock [2]) false)).map (fun s => (s.access, s.service, s.outbound)) =
      some (.opened, none, [.acknowledgement .linkReset .good]) ∧
    (after .linkReset (heldReset .opened .endSession .holdEndSession true)).map (fun s => (s.access, s.service, s.outbound)) =
      some (.locked, none, [.acknowledgement .linkReset .good]) := by decide

/-- The completion that empties the slot ends a held LOCK (R72) and a pending session end (R75). -/
theorem test_holds_end :
    (after (.downstreamCompletion 0 0 zeroSector) (inStage (oneLeft .opened .draining) (.lock [2]) (.holdLock [2]))).map (fun s =>
      (s.service, s.outbound.length)) = some (none, 2) ∧
    (after (.downstreamCompletion 0 0 zeroSector)
      (inStage { oneLeft .opened .draining with sessionEnd := true } .endSession .holdEndSession)).map (fun s =>
        (s.access, s.sessionEnd, s.service)) = some (.locked, false, none) := by decide

/-- What SET LOCKS compares of an entry. -/
def entryNumbers (e : LockEntry) : Nat × Nat × Nat := (e.range.toNat, e.readLock.toNat, e.writeLock.toNat)

/-- What it compares of a change. -/
def changeNumbers (c : LockChange) : Nat × Nat × Nat := (c.range.val, c.locks.readLock.toNat, c.locks.writeLock.toNat)

/-- An entry that clears a lock without a key, and ones that set locks; of U, of a revealed range and of another; every form that
is INVALID. -/
theorem witness_SetLocksApplies :
    (∀ a, (drive a).Ready 31 31 ⟨0, 0⟩ 0 ∧ (drive a).Ready 31 31 ⟨1, 0⟩ 1 ∧ (drive a).Ready 31 31 ⟨2, 0⟩ 2) ∧
    [(⟨3, 0, 0⟩ : LockEntry)].map entryNumbers = [(⟨3, ⟨false, false⟩⟩ : LockChange)].map changeNumbers ∧
    (drive .opened).slots[(3 : RangeIndex)].state ≠ .loaded ∧ (drive .opened).locks[(3 : RangeIndex)].readLock = true ∧
    [(⟨2, 1, 1⟩ : LockEntry), ⟨0, 1, 0⟩].map entryNumbers =
      [(⟨2, ⟨true, true⟩⟩ : LockChange), ⟨0, ⟨true, false⟩⟩].map changeNumbers ∧
    (([⟨2, 1, 1⟩, ⟨0, 1, 0⟩] : List LockEntry).map LockEntry.range).Nodup ∧ (drive .opened).slots[(2 : RangeIndex)].state = .loaded ∧
    (drive .opened).slots[(0 : RangeIndex)].state = .loaded ∧ ((drive .opened).credential 1).kind = .user ∧
    revealsU 2 = true ∧ revealsU 0 = true ∧ (∀ r : RangeIndex, (3 : Byte).toNat = r.val → revealsU r = false) ∧
    16 < (List.replicate 17 (⟨2, 0, 0⟩ : LockEntry)).length ∧
    ¬ (([⟨2, 1, 1⟩, ⟨2, 1, 0⟩] : List LockEntry).map LockEntry.range).Nodup ∧ 16 ≤ (16 : Byte).toNat ∧ 2 ≤ (2 : Byte).toNat :=
  ⟨drive_ready, by decide⟩

/-- A range request that fits the layout of section 1.7, at the least length taken, and one that meets range 2. -/
theorem witness_DefineRangeTakesTheExtent :
    (∀ a, (drive a).Ready 31 31 ⟨0, 0⟩ 0 ∧ (drive a).Ready 31 31 ⟨1, 0⟩ 1 ∧ (drive a).Ready 31 31 ⟨2, 0⟩ 2) ∧
    ((200002048 + 7) / 8 * 8, min ((200002048 + 2048) / 8 * 8) (drive .locked).capacity - (200002048 + 7) / 8 * 8) =
      ((200002048, 2048) : Nat × Nat) ∧
    (∀ q : RangeIndex, q ≠ 4 → layout17[q].defined = true → ∀ y, layout17[q].extent = some y →
      200002048 + 2048 ≤ y.1 ∨ y.1 + y.2 ≤ 200002048) ∧
    layout17[(2 : RangeIndex)].extent = some (2048, 200000000) ∧ ¬ (2048 + 8 ≤ 2048 ∨ 2048 + 200000000 ≤ 2048) ∧
    16 ≤ (16 : Byte).toNat ∧ ((drive .locked).credential 0).kind = .owner ∧ (drive .locked).usersNaming 2 = [1] :=
  ⟨drive_ready, by
    refine ⟨by decide, ?_, by decide, by decide, by decide, by decide, rfl⟩
    have h : ∀ q : RangeIndex, (layout17[q].extent.all fun y => decide (200002048 + 2048 ≤ y.1 ∨ y.1 + y.2 ≤ 200002048)) = true := by
      decide
    intro q _ _ y e
    have g := h q
    rw [e] at g
    exact of_decide_eq_true g⟩

/-- A range whose slot is free of uses, and one whose slot is in use. -/
theorem witness_DeleteAndEraseWithdrawTheKey :
    (∀ a, (drive a).Ready 31 31 ⟨0, 0⟩ 0 ∧ (drive a).Ready 31 31 ⟨1, 0⟩ 1 ∧ (drive a).Ready 31 31 ⟨2, 0⟩ 2) ∧ ((drive .opened).raiseUse 2).Ready 31 31 ⟨0, 0⟩ 0 ∧
    (∀ r g, (inStage (oneLeft .opened .draining) r g).EndsEntry 0 0 0 (seg 0 0 2048 8 (some 2)) .good) ∧
    (drive .locked).copies.layout[(3 : RangeIndex)].defined = true ∧
    (3 : RangeIndex) ≠ 0 ∧ (drive .locked).copies.layout[(2 : RangeIndex)].image = false ∧
    ((drive .opened).slotsBoth fun q => decide (q = 2))[(2 : RangeIndex)].state = .empty ∧
    (((drive .opened).raiseUse 2).slotsBoth fun q => decide (q = 2))[(2 : RangeIndex)].state ≠ .empty ∧
    (inStage (oneLeft .opened .draining) (.eraseRange 2) (.holdErase 2)).Busy
      ⟨30, 80, .eraseRange 2, some (0, 0), .opened, .holdErase 2, false, false⟩ ∧
    (inStage (oneLeft .opened .draining) (.eraseRange 2) (.holdErase 2)).writer = ⟨none, []⟩ ∧
    ((inStage (oneLeft .opened .draining) (.eraseRange 2) (.holdErase 2)).entryEnded 0 0 (seg 0 0 2048 8 (some 2)) .good
      zeroSector).slots[(2 : RangeIndex)].state = .empty ∧
    (inStage (oneLeft .opened .draining) (.eraseRange 2) (.holdErase 2)).queue = [] ∧
    (inStage (oneLeft .opened .draining) (.eraseRange 2) (.holdErase 2)).copies.credentials[(0 : SlotIndex)].corrupt = false ∧
    (drive .locked).copies.layout[(15 : RangeIndex)].defined = false ∧
    (drive .locked).copies.layout[(1 : RangeIndex)].image = true ∧ 16 ≤ (16 : Byte).toNat :=
  ⟨drive_ready, raised_ready, fun _ _ => oneLeft_ends .opened .draining 0 .good (.inl ⟨rfl, rfl⟩), by decide⟩

/-- A held ERASE RANGE goes on to its layout write when its slot is EMPTY (R163). -/
theorem test_held_erase :
    (after (.downstreamCompletion 0 0 zeroSector) (inStage (oneLeft .opened .draining) (.eraseRange 2) (.holdErase 2))).map (fun s =>
      s.writer.current.map fun w => w.content.record) = some (some .layout) := by decide

theorem witness_ImageWriteEnableSetsTheLatch :
    (∀ a, (drive a).Ready 31 31 ⟨0, 0⟩ 0 ∧ (drive a).Ready 31 31 ⟨1, 0⟩ 1 ∧ (drive a).Ready 31 31 ⟨2, 0⟩ 2) ∧
    ((drive .locked).credential 0).kind = .owner ∧ (drive .opened).access = .opened :=
  ⟨drive_ready, by
    decide⟩

theorem witness_SetPolicyWritesTheValuesTaken :
    (∀ a, (drive a).Ready 31 31 ⟨0, 0⟩ 0 ∧ (drive a).Ready 31 31 ⟨1, 0⟩ 1 ∧ (drive a).Ready 31 31 ⟨2, 0⟩ 2) ∧
    ((drive .opened).credential 0).kind = .owner ∧
    ((drive .opened).credential 1).kind ≠ .owner ∧ 3 ≤ (3 : Byte).toNat ∧ (drive .blank).access = .blank ∧
    (drive .fault).access ≠ .dormant :=
  ⟨drive_ready, by decide⟩

theorem witness_PolicyOnlyTightens : (⟨true, 3, 10, 30, .lock, .none, none, .media⟩ : Policy).legal = true ∧
    (⟨true, 3, 10, 30, .lock, .none, none, .media⟩ : Policy).attemptLimit ≠ 0 ∧
    (⟨true, 3, 10, 30, .lock, .none, none, .media⟩ : Policy).absenceLimit ≠ 0 := by decide

/-- In FINAL a field that would be less strict is kept and every other is taken: an attempt limit of 0 is clamped to no limit and
kept out, one of 3 is taken as 4, above the free tries taken (R135). -/
theorem test_final_policy :
    (⟨true, 5, 10, 0, .lock, .none, none, .media⟩ : Policy).take true 16 0 250 .wipe .keys =
      ⟨true, 5, 10, 250, .wipe, .none, none, .media⟩ ∧
    (⟨true, 5, 10, 30, .lock, .none, none, .media⟩ : Policy).take true 3 3 31 .ignore .mediaAndImage =
      ⟨true, 3, 4, 30, .lock, .none, none, .mediaAndImage⟩ := by decide

theorem witness_BindPlatformAndFinalize :
    (∀ a, (drive a).Ready 31 31 ⟨0, 0⟩ 0 ∧ (drive a).Ready 31 31 ⟨1, 0⟩ 1 ∧ (drive a).Ready 31 31 ⟨2, 0⟩ 2) ∧
    (drive .locked).copies.policy.final = false ∧ (drive .locked).copies.policy.attemptLimit = 0 ∧
    (bound .deny 0).copies.policy.attemptLimit ≠ 0 ∧
    (withPolicy (drive .locked) ⟨true, 5, 10, 0, .ignore, .wipe, some 0, .keys⟩).copies.policy.final = true ∧
    BindingPolicy.deny.strictness < BindingPolicy.wipe.strictness ∧ 3 ≤ (3 : Byte).toNat ∧ (drive .blank).access = .blank ∧
    (withPolicy (drive .locked) ⟨true, 5, 10, 0, .ignore, .wipe, some 0, .keys⟩).provisioning = .final ∧
    (0 : Byte).toNat = (0 : SlotIndex).val :=
  ⟨drive_ready, by decide⟩

/-- A write of each record in progress that nobody awaits, and a request for a record that is queued and for one that is not. -/
theorem witness_StoreWriterWorks :
    ({ locked with writer := ⟨some ⟨.wipe WipeRecord.fresh, []⟩, [⟨.counters ⟨1, 0⟩, [.engine]⟩]⟩ } : State).Calm ∧
    locked.access ≠ .dormant ∧ locked.writer.current = none ∧
    (([⟨.counters ⟨1, 0⟩, [.engine]⟩] : List RecordWrite).map fun w => w.content.record).Nodup ∧
    (Content.counters ⟨0, 0⟩).record ∈ ([⟨.counters ⟨1, 0⟩, [.engine]⟩] : List RecordWrite).map (fun w => w.content.record) ∧
    (Content.policy Policy.defaults).record ∉ ([⟨.counters ⟨1, 0⟩, [.engine]⟩] : List RecordWrite).map (fun w => w.content.record) := by
  decide

theorem witness_PowerCycle : (drive .opened).power ≠ .off ∧ (drive .opened).writer.current = none ∧
    (atGate .gateCount 0 ⟨1, 0⟩).writer.current = some ⟨.counters ⟨1, 0⟩, [.channel]⟩ ∧ WriteCut.torn ≠ .oldContent ∧
    State.reset.power = .off ∧
    wiping.writer.current = some ⟨.wipe ⟨.purge, some .order, some .keys, some false, none, none⟩, [.engine]⟩ ∧
    wiping.store.wipe = .intact WipeRecord.fresh ∧ WipeRecord.fresh.phase = .none ∧ wiping.power ≠ .off ∧
    (∀ x, Content.counters ⟨1, 0⟩ ≠ .wipe x) := by
  refine ⟨by decide, by decide, by decide, by decide, by decide, by decide, by decide, by decide, by decide, fun _ h => by cases h⟩

/-- A power loss that falls in a wipe's first PURGE write leaves the record old or torn, as a free value has it; after one that
falls past its end the record holds the new content (R87, R90, R181). -/
theorem test_loss_in_first_purge :
    ((wiping.storeAfterLoss .torn).wipe = .intact WipeRecord.fresh ∨ (wiping.storeAfterLoss .torn).wipe = .torn) ∧
    (wiping.storeAfterLoss .newContent).wipe = .intact ⟨.purge, some .order, some .keys, some false, none, none⟩ := by
  refine ⟨?_, by decide⟩
  cases h : Config.firstPurgeTears
  · refine .inl ?_
    simp only [State.storeAfterLoss, h]
    decide
  · refine .inr ?_
    simp only [State.storeAfterLoss, h]
    decide

/-- One during a later write of the wipe record may tear it (R90). -/
theorem test_loss_in_last_wipe_write :
    (after (.powerLoss .torn) { wiping with
      store := { wiping.store with wipe := .intact ⟨.purge, some .order, some .keys, some false, none, none⟩ }
      writer := ⟨some ⟨.wipe ⟨.none, some .order, none, none, none, some 0⟩, [.engine]⟩, []⟩ }).map (fun s => s.store.wipe) =
      some .torn := by decide

/-- The drive at the end of its power-up self-test. -/
def starting : State := { locked with power := .selfTest, access := .starting }

/-- The manufactured drive at the end of its power-up self-test. -/
def startingBlank : State := { blank with power := .selfTest, access := .starting }

theorem witness_PowerUpDecides : starting.Quiet ∧ starting.power = .selfTest ∧ starting.access = .starting ∧ starting.latched = false ∧
    starting.writer = ⟨none, []⟩ ∧ starting.latch = false ∧ starting.engine.sanitize = none ∧ starting.outstanding = [] ∧
    zeroSector = starting.vector.plain ∧ starting.scan.storeFault = false ∧
    starting.copies.wipe.phase = .none ∧ starting.provisioning ≠ .blank ∧ 399995904 + 4096 ≤ starting.capacity ∧
    startingBlank.copies.credentials[(0 : SlotIndex)].record = some (Credential.blank manufacturedDeviceWrap) ∧
    (Credential.blank manufacturedDeviceWrap).wraps = [manufacturedDeviceWrap] ∧
    starting.vector.expected = encipher starting.vector.key starting.vector.tweak starting.vector.plain ∧
    unwrapKey startingBlank.store.identity.deviceKey manufacturedDeviceWrap = some 0 := by
  refine ⟨by decide, by decide, by decide, by decide, by decide, by decide, by decide, by decide, by decide, by decide, by decide,
    by decide, by decide, rfl, rfl, rfl, ?_⟩
  simp [unwrapKey, manufacturedDeviceWrap, startingBlank, blank, State.reset, State.unpowered, Store.manufactured,
    manufacturedDeviceKey, manufacturedGlobalKey]

/-- A recorded wipe of each phase for the power-up decision. -/
theorem witness_PowerUpDecides_wipe :
    ({ starting with
      copies := { starting.copies with wipe := ⟨.sanitize, some .order, some .media, some false, some 399995904, some 0⟩ }
      engine := ⟨some ⟨.recorded, .order, .media, false, 0, false⟩, none⟩ } : State).Quiet ∧
    (⟨.sanitize, some .order, some .media, some false, some 399995904, some 0⟩ : WipeRecord).cursor = some 399995904 ∧
    (⟨.purge, some .order, some .media, some false, none, none⟩ : WipeRecord).phase = .purge ∧
    (⟨.recorded, .order, .media, false, 0, false⟩ : WipeJob).keepOwner = starting.keepOwner := by decide

/-- The absence step's write, at the limit, above it and with an opening latched. -/
theorem witness_AbsenceStepDecides :
    ({ withPolicy starting ⟨false, 5, 10, 30, .wipe, .none, none, .keys⟩ with
      power := .absence, latched := true, writer := ⟨some ⟨.counters ⟨6, 31⟩, [.sequence]⟩, []⟩ } : State).Quiet ∧
    starting.engine.job = none ∧ starting.noneForwarded = true ∧ starting.provisioning ≠ .blank ∧ 30 < 31 ∧ ¬ 30 < 30 := by decide

/-- A part in DORMANT under an enclosure policy. -/
def dormantUnder (p : EnclosurePolicy) (resume : Access) : State :=
  { withPolicy (drive .dormant) ⟨false, 5, 10, 30, p, .none, none, .keys⟩ with resume := some resume }

theorem witness_EnclosureActs :
    (∀ a, (drive a).Calm ∧ (drive a).FreeTag 31 31) ∧
    (drive .opened).level = .closed ∧ blank.provisioning = .blank ∧
    (withPolicy (drive .opened) ⟨false, 5, 10, 30, .lock, .none, none, .keys⟩).provisioning ≠ .blank ∧
    (drive .opened).latch = false ∧ (∀ r : RangeIndex, (drive .opened).allLocked.slots[r].state = .empty) ∧
    ((drive .opened).raiseUse 2).allLocked.slots[(2 : RangeIndex)].state ≠ .empty ∧ starting.Quiet ∧ starting.power ≠ .off ∧
    starting.power ≠ .running ∧ wiping.engine.job.isSome = true ∧
    (dormantUnder .wipe .opened).level = .closed ∧ (dormantUnder .wipe .opened).provisioning ≠ .blank ∧
    (dormantUnder .lock .opened).provisioning ≠ .blank ∧ (dormantUnder .lock .opened).access = .dormant ∧
    (dormantUnder .wipe .opened).writer = ⟨none, []⟩ ∧ (dormantUnder .wipe .opened).engine.job = none ∧
    (dormantUnder .wipe .opened).noneForwarded = true ∧ (dormantUnder .lock .blank).resume ≠ some .opened ∧
    (dormantUnder .lock .blank).resume ≠ some .staged ∧
    (∀ r : RangeIndex, (dormantUnder .lock .opened).allLocked.slots[r].state = .empty) :=
  ⟨fun a => ⟨drive_calm a, drive_free a⟩, by decide⟩

set_option maxRecDepth 20000 in
/-- An enclosure opening in DORMANT: a wipe under policy WIPE, the session's end under LOCK (R76, R145, R161). -/
theorem test_opening_in_dormant :
    (after .enclosureOpening (dormantUnder .wipe .opened)).map (fun s => (s.access, s.resume)) = some (.dormant, some .wiping) ∧
    (after .enclosureOpening (dormantUnder .lock .opened)).map (fun s => (s.access, s.resume)) = some (.dormant, some .locked) := by
  decide

/-- The open drive under policy WIPE with traffic, a request held or awaiting a write, and its writer. -/
def purged (g : Stage) (w : Writer) : State :=
  { withPolicy (inStage (oneLeft .opened .draining) (.lock [2]) g) ⟨false, 5, 10, 30, .wipe, .none, none, .keys⟩ with writer := w }

/-- Its request struck, and its write still in progress behind which the wipe record waits. -/
def struckWrite : State :=
  { wiping with
    table := wiping.table.set 30 Entry.ofControl
    service := some ⟨30, 32, .lock [2], some (0, 0), .opened, .gateCount, false, true⟩
    writer := ⟨some ⟨.counters ⟨1, 0⟩, [.channel]⟩, [⟨.wipe ⟨.purge, some .order, some .keys, some false, none, none⟩, [.engine]⟩]⟩ }

theorem witness_PurgeAbortsTraffic :
    (∀ e, (busy e).Calm) ∧
    (busy (writeEntry .forwarded)).level = .closed ∧
    (withPolicy (busy (writeEntry .forwarded)) ⟨false, 5, 10, 30, .wipe, .none, none, .keys⟩).provisioning ≠ .blank ∧
    (busy (writeEntry .forwarded)).engine.job = none ∧ (busy (writeEntry .forwarded)).InService ∧
    (∀ t : Tag, (busy (writeEntry .forwarded)).table[t].state = .forwarded →
      ((busy (writeEntry .forwarded)).table[t].segments.any fun g => decide (g.status = none) && decide (g.arrived = none)) = true) ∧
    (∀ g w, (purged g w).service = some ⟨30, 32, .lock [2], some (0, 0), .opened, g, false, false⟩ ∧ (purged g w).power = .running ∧
      (purged g w).queue = [] ∧ (purged g w).lane = [] ∧ (purged g w).dataLane = [] ∧ (purged g w).heldPowerEnter = false ∧
      (purged g w).level = .closed ∧ (purged g w).engine.job = none ∧ (purged g w).copies.policy.enclosure = .wipe) ∧
    (purged (.holdLock [2]) ⟨none, []⟩).InService ∧ (purged (.holdLock [2]) ⟨none, []⟩).provisioning ≠ .blank ∧
    (∀ t : Tag, (purged (.holdLock [2]) ⟨none, []⟩).table[t].state = .forwarded →
      ((purged (.holdLock [2]) ⟨none, []⟩).table[t].segments.any fun g => decide (g.status = none) && decide (g.arrived = none)) =
        true) ∧ Stage.gateCount.awaitsWrite = true ∧
    struckWrite.service.any (fun v => v.struck && !v.discard && v.stage.awaitsWrite) = true ∧ struckWrite.access = .wiping ∧
    struckWrite.writer = ⟨some ⟨.counters ⟨1, 0⟩, [.channel]⟩,
      [⟨.wipe ⟨.purge, some .order, some .keys, some false, none, none⟩, [.engine]⟩]⟩ ∧ struckWrite.sessionEnd = false ∧
    struckWrite.queue = [] ∧ struckWrite.lane = [] ∧ struckWrite.dataLane = [] ∧ struckWrite.heldPowerEnter = false :=
  ⟨busy_calm, by decide, by decide, by decide, by decide, by decide,
    fun _ _ => ⟨rfl, rfl, rfl, rfl, rfl, rfl, rfl, rfl, rfl⟩, by decide⟩

set_option maxRecDepth 20000 in
/-- A held LOCK is answered WIPED at the purge, and a request that awaits a write at that write's completion (R72, R105). -/
theorem test_purge_answers_wiped :
    (after .enclosureOpening (purged (.holdLock [2]) ⟨none, []⟩)).map (fun s => (s.access, s.service, s.outbound)) =
      some (.wiping, none, [controlCompletion 30 .wiped 32 .noFields]) ∧
    (after .storeWriteCompletion struckWrite).map (fun s => (s.service, s.outbound, s.store.counters)) =
      some (none, [controlCompletion 30 .wiped 32 .noFields], .intact ⟨1, 0⟩) := by decide

theorem witness_BackoffRunsOut : ({ drive .locked with backoff := some 1024 } : State).Calm ∧
    ({ drive .locked with backoff := some 1024 } : State).pending = [] ∧ (drive .locked).backoff = none ∧
    ({ drive .locked with backoff := some 1024 } : State).owesAnswer = false := by decide

/-- The open drive and its next second meet the laws of every step. -/
theorem witness_StepKeepsItsLaws : step (drive .opened) = .next (drive .opened) ∧ (drive .opened).OutstandingSorted ∧
    (drive .opened).QueueBounded ∧ (drive .opened).CountsBounded ∧ (drive .opened).WriterLaw ∧ (drive .opened).settleStep = none := by
  refine ⟨rfl, by decide, by decide, ⟨by decide, ?_, ?_⟩, by decide, rfl⟩
  · intro w h
    cases h
  · intro w h
    cases h

/-- The open drive, with keys, meets the law of the key slots. -/
theorem witness_StepKeepsKeyLaw : (drive .opened).KeyLaw := by
  refine ⟨by unfold State.DormantLaw; decide, fun h => absurd rfl h, ?_, ?_⟩
  · intro _ h
    exact absurd h (by decide)
  · intro h
    exact absurd h (by decide)

end Sys2Proof.Tests
end

section
/-! Proofs/AddressChecks.lean: the count check and the bounds check of a READ, WRITE or DEALLOCATE (R24, R25). Each check is
settled by saying exactly when the stages answer its refusal, and by carrying a refusal of the stages to the command. -/

open Sys2Proof Sys2Proof.Machine

namespace Sys2Proof.Machine

/-! ## When the stages refuse -/

/-- INVALID is the refusal of the count check and of a capsule that needs a third entry (R24, R26). -/
theorem State.resolve_eq_invalid_iff (s : State) (k : Kind) (v c : Nat) :
    s.resolve k v c = .refused .invalid ↔
      (c = 0 ∨ 1024 < c) ∨ ∃ w, s.view = some w ∧ v + c ≤ w.capacity ∧ w.split v c = none := by
  unfold State.resolve
  by_cases hcount : c = 0 ∨ 1024 < c
  · simp [hcount]
  · rw [if_neg hcount]
    cases hview : s.view with
    | none => simp [hcount]
    | some w =>
      by_cases hbound : w.capacity < v + c
      · simp [hcount, hbound]
      · cases hsplit : w.split v c with
        | none => simp [hbound, hsplit, Nat.not_lt.mp hbound]
        | some ps => by_cases hlock : ps.all (s.passes w k) = true <;> simp [hcount, hbound, hsplit, hlock]

/-- OUT_OF_RANGE is the refusal of the bounds check alone, which a count that the count check refuses never reaches (R25); an
absent view has no sector in range. -/
theorem State.resolve_eq_outOfRange_iff (s : State) (k : Kind) (v c : Nat) :
    s.resolve k v c = .refused .outOfRange ↔
      (1 ≤ c ∧ c ≤ 1024) ∧ ∀ w, s.view = some w → w.capacity < v + c := by
  unfold State.resolve
  by_cases hcount : c = 0 ∨ 1024 < c
  · have hnot : ¬ (1 ≤ c ∧ c ≤ 1024) := by omega
    simp [hcount, hnot]
  · have hpass : 1 ≤ c ∧ c ≤ 1024 := by omega
    rw [if_neg hcount]
    cases hview : s.view with
    | none => simp [hpass]
    | some w =>
      by_cases hbound : w.capacity < v + c
      · simp [hpass, hbound]
      · cases hsplit : w.split v c with
        | none => simp [hbound, hsplit]
        | some ps => by_cases hlock : ps.all (s.passes w k) = true <;> simp [hbound, hsplit, hlock]

/-! ## From the stages to the command -/

/-- The code of a tagged kind reads back as that kind (section 3.10, R45). -/
@[simp] theorem kindOfByte_code (k : Kind) : kindOfByte k.code = .tagged k := by cases k <;> rfl

/-- A READ, WRITE or DEALLOCATE offered on a FREE tag of a calm part in service ends as its stages decide, with no follow-up
(R23). -/
theorem State.offer_addressed {s : State} (h : s.Calm) {tag : Byte} {t : Tag} (ht : s.FreeTag tag t) (hs : s.InService)
    {k : Kind} (hk : k = .read ∨ k = .write ∨ k = .deallocate) (lba : BitVec 48) (count : BitVec 16) :
    s.offer ⟨k.code, tag, count, lba, []⟩ =
      s.addressed t k lba.toNat count.toNat (s.resolve k lba.toNat count.toNat) := by
  have hadmit : s.admitData t k ⟨k.code, tag, count, lba, []⟩ = s.admitAddressed t k lba.toNat count.toNat := by
    unfold State.admitData
    rw [State.dataRefusal_none h hs]
    rcases hk with rfl | rfl | rfl <;> rfl
  have hcontrol : k ≠ .control := by rcases hk with rfl | rfl | rfl <;> decide
  rw [State.offer_data h ht (kindOfByte_code k) hcontrol, hadmit, State.admitAddressed_eq,
    State.settle_calm (h.addressed ..)]

/-- A refusal that the stages give for every kind completes READ, WRITE and DEALLOCATE with its status alone (R23). -/
theorem exec_addressed_refused {s : State} (h : s.Calm) {tag : Byte} {t : Tag} (ht : s.FreeTag tag t) (hs : s.InService)
    {lba : BitVec 48} {count : BitVec 16} {st : Status}
    (hr : ∀ k, s.resolve k lba.toNat count.toNat = .refused st) :
    exec (.read tag lba count) s = .next (s.completed (Kind.code .read) t st) ∧
      exec (.write tag lba count) s = .next (s.completed (Kind.code .write) t st) ∧
      exec (.deallocate tag lba count) s = .next (s.completed (Kind.code .deallocate) t st) := by
  have hoffer : ∀ k : Kind, k = .read ∨ k = .write ∨ k = .deallocate →
      s.offer ⟨k.code, tag, count, lba, []⟩ = s.completed k.code t st := by
    intro k hk
    rw [State.offer_addressed h ht hs hk, hr k]
    rfl
  exact ⟨congrArg Host.Outcome.next (hoffer .read (by simp)), congrArg _ (hoffer .write (by simp)),
    congrArg Host.Outcome.next (hoffer .deallocate (by simp))⟩

/-! ## Capsules whose count is ignored -/

/-- Two capsules of one kind byte and one tag are taken alike when they would be admitted alike: nothing before admission
reads any other field (R45, R47). -/
theorem State.takeCapsule_congr {s : State} {c c' : Capsule} (hkind : c.kind = c'.kind) (htag : c.tag = c'.tag)
    (hadmit : ∀ t, s.admitCapsule t c = s.admitCapsule t c') : s.takeCapsule c = s.takeCapsule c' := by
  simp only [State.takeCapsule, State.takeTagged, hkind, htag, hadmit]

/-- FLUSH and IDENTIFY are admitted without regard to the capsule's count and LBA (R24, R36). -/
theorem State.admitCapsule_ignores_count {k : Kind} (hk : k = .flush ∨ k = .identify) (s : State) (t : Tag) (tag : Byte)
    (count count' : BitVec 16) (lba lba' : BitVec 48) :
    s.admitCapsule t ⟨k.code, tag, count, lba, []⟩ = s.admitCapsule t ⟨k.code, tag, count', lba', []⟩ := by
  unfold State.admitCapsule
  rw [kindOfByte_code]
  rcases hk with rfl | rfl <;> rfl

end Sys2Proof.Machine

/-! ## The two obligations -/

/-- Settles O5: the stages answer INVALID for a refused count before they look at the view, and for a count that passes only
when the split fails. -/
theorem countCheck : Obligations.CountCheck := by
  unfold Obligations.CountCheck
  refine ⟨?refused, ?passes, ?ignored⟩
  case refused =>
    intro s tag t lba count hcalm hfree hservice hcount
    exact exec_addressed_refused hcalm hfree hservice fun k => (s.resolve_eq_invalid_iff k _ _).mpr (.inl hcount)
  case passes =>
    intro s k v c w hlow hhigh hview _ hsplit hinvalid
    rcases (s.resolve_eq_invalid_iff k v c).mp hinvalid with hcount | ⟨w', hview', _, hnone⟩
    · omega
    · obtain rfl : w = w' := Option.some.inj (hview.symm.trans hview')
      exact hsplit hnone
  case ignored =>
    intro s k tag count count' lba lba' hk
    exact State.takeCapsule_congr rfl rfl fun t => State.admitCapsule_ignores_count hk s t tag count count' lba lba'

/-- Settles O6: the stages answer OUT_OF_RANGE exactly for a count that passes and an exact sum above the view's capacity. -/
theorem boundsCheck : Obligations.BoundsCheck := by
  unfold Obligations.BoundsCheck
  refine ⟨?refused, ?passes⟩
  case refused =>
    intro s tag t lba count w hcalm hfree hservice hview hlow hhigh hexceeds
    refine exec_addressed_refused hcalm hfree hservice fun k =>
      (s.resolve_eq_outOfRange_iff k _ _).mpr ⟨⟨hlow, hhigh⟩, fun w' hview' => ?_⟩
    obtain rfl : w = w' := Option.some.inj (hview.symm.trans hview')
    exact hexceeds
  case passes =>
    intro s k v c w hview hwithin hrefused
    obtain ⟨_, hexceeds⟩ := (s.resolve_eq_outOfRange_iff k v c).mp hrefused
    exact absurd (hexceeds w hview) (Nat.not_lt.mpr hwithin)

end

section
/-! Proofs/ControlRequests.lean: SET ATTENTION (R130) and SET POLICY (R134). A request's envelope reads back as the request;
from there it is answered before the gate, or it passes the gate and its entry has its effect, once for every request. -/

open Sys2Proof Sys2Proof.Machine

namespace Sys2Proof.Machine

/-! ## The envelope of a request -/

/-- Every request code fits the two bytes that carry it (section 7.9). -/
theorem Request.code_lt (r : Request) : r.code < 256 ^ 2 := by cases r <;> simp [Request.code]

@[simp] theorem length_envelopeOf (auth : AuthBlock) (r : Request) : (envelopeOf auth r).length = 40 + r.fields.length := by
  simp only [envelopeOf, List.length_append, length_leBytes, List.length_cons, List.length_nil]

/-- The envelope of a request whose fields fit 1024 bytes and read back as the request passes its test, with the block that
byte 4 names (R59). -/
theorem readEnvelope_envelopeOf {auth : AuthBlock} {slot : Option SlotIndex} {r : Request}
    (hslot : blockSlot auth.slot = some slot) (hlength : r.fields.length ≤ 984)
    (hread : requestOf r.code r.fields = some r) :
    readEnvelope (envelopeOf auth r).length (keptEnvelope (envelopeOf auth r)) =
      some ⟨r, slot.map fun i => (i, auth.secret)⟩ := by
  have hkept : keptEnvelope (envelopeOf auth r) = envelopeOf auth r :=
    List.take_of_length_le (by rw [length_envelopeOf]; omega)
  have hcode : envelopeCode (envelopeOf auth r) = r.code := by
    have hfield : fieldAt (envelopeOf auth r) 0 2 = r.code := by
      simp only [envelopeOf, List.append_assoc]
      rw [fieldAt_zero _ _ 2 (length_leBytes ..), leNat_leBytes, Nat.mod_eq_of_lt (Request.code_lt r)]
    rw [envelopeCode, if_neg (by rw [length_envelopeOf]; omega), hfield]
  have hfieldLength : fieldAt (envelopeOf auth r) 2 2 = r.fields.length := by
    simp only [envelopeOf, List.append_assoc]
    rw [← List.append_assoc, fieldAt_append _ _ _ 2 2 (length_leBytes ..) (length_leBytes ..), leNat_leBytes,
      Nat.mod_eq_of_lt (by omega)]
  have hblock : byteAt (envelopeOf auth r) 4 = auth.slot := by
    simp only [envelopeOf, List.append_assoc, List.cons_append]
    rw [← List.append_assoc, byteAt_append _ _ _ 4 (by simp only [List.length_append, length_leBytes])]
  have hsecret : fieldAt (envelopeOf auth r) 8 32 = leNat (leBytes 32 auth.secret.toNat) :=
    fieldAt_append _ _ _ 8 32 (by simp only [List.length_append, length_leBytes, List.length_cons, List.length_nil])
      (length_leBytes ..)
  have hfields : (envelopeOf auth r).drop 40 = r.fields :=
    List.drop_left' (by simp only [List.length_append, length_leBytes, List.length_cons, List.length_nil])
  rw [hkept, readEnvelope, if_neg (by rw [length_envelopeOf]; omega),
    if_neg (by rw [length_envelopeOf, hfieldLength]; omega)]
  simp only [hblock, hslot, hcode, hfields, hread, hsecret, secret_leBytes]

/-- A block that names a slot (section 3.10). -/
theorem blockSlot_of_toNat {b : Byte} {i : SlotIndex} (h : b.toNat = i.val) : blockSlot b = some (some i) := by
  have hlt : b.toNat < 8 := h ▸ i.isLt
  rw [blockSlot, dif_pos hlt]
  exact congrArg (fun j => some (some j)) (Fin.ext h)

theorem blockSlot_noBlock : blockSlot noBlock = some none := by decide

/-! ## The tests before the gate (R98, R122) -/

/-- A request whose entry requires a block and that carries none is refused in every access state (R98). -/
theorem State.testRequest_noBlock {u : State} {v : Service} (hneed : requestNeed v.request u.inStoreFault = .required)
    (hauth : v.auth = none) : u.testRequest v = u.answerPlain .notPermitted := by
  simp [State.testRequest, hneed, hauth]

/-- The refusal of an access state comes before the request's own entry is consulted (R122). -/
theorem State.testRequest_refused {u : State} {v : Service} {st : Status}
    (hblock : ¬ (requestNeed v.request u.inStoreFault = .required ∧ v.auth = none))
    (hrefused : accessRefusal u.access v.request = some st) : u.testRequest v = u.answerPlain st := by
  simp only [State.testRequest, if_neg hblock, hrefused]

/-- A request that its own entry does not serve in the access state never reaches the gate (section 7.9). -/
theorem State.testRequest_wrongState {u : State} {v : Service}
    (hblock : ¬ (requestNeed v.request u.inStoreFault = .required ∧ v.auth = none))
    (haccess : accessRefusal u.access v.request = none) (hserved : u.entryServes v.request v.auth.isSome = false) :
    u.testRequest v = u.answerPlain .wrongState := by
  simp [State.testRequest, if_neg hblock, haccess, hserved]

/-- In service no request is refused by the access state itself (R122). -/
theorem accessRefusal_inService {s : State} (h : s.InService) (r : Request) : accessRefusal s.access r = none := by
  rcases h with h | h | h | h <;> rw [h] <;> rfl

theorem State.InService.not_dormant {s : State} (h : s.InService) : s.access ≠ .dormant := by
  rcases h with h | h | h | h <;> rw [h] <;> decide

/-! ## Requests answered before the gate -/

/-- A request has just entered service, and no test has been made of it (R121). -/
def State.entered (s : State) (t : Tag) (e : Envelope) : State :=
  { s.setEntry t Entry.ofControl with service := some (Service.entered s t e .holdTest) }

/-- A request offered to a calm part outside DORMANT enters service and is tested at the same event (R48, R121). -/
theorem State.offer_entered {s : State} (h : s.Calm) {tag : Byte} {t : Tag} (ht : s.FreeTag tag t)
    (hawake : s.access ≠ .dormant) {auth : AuthBlock} {slot : Option SlotIndex} {r : Request}
    (hslot : blockSlot auth.slot = some slot) (hlength : r.fields.length ≤ 984)
    (hread : requestOf r.code r.fields = some r) :
    s.offer (.request tag auth r) =
      ((s.entered t ⟨r, slot.map fun i => (i, auth.secret)⟩).testRequest
        (Service.entered s t ⟨r, slot.map fun i => (i, auth.secret)⟩ .holdTest)).settle :=
  State.offer_request h ht hawake (readEnvelope_envelopeOf hslot hlength hread)

/-- The answer of a request that has just entered service leaves the part calm, its entry FREE and nothing else changed
(R121). -/
theorem State.entered_answer {s : State} (h : s.Calm) (t : Tag) (e : Envelope) (st : Status) (f : Response) :
    (s.entered t e).answer st f = s.answered t st e.request.code f := by
  rw [State.answer_eq (s := s.entered t e) rfl rfl]
  have hentry : (s.table.set t Entry.ofControl).set t Entry.free = s.table.set t Entry.free := Vector.set_set ..
  simp only [State.entered, State.answered, State.setEntry, Service.entered, hentry]
  rw [← h.service]

/-- A request whose tests answer it with a status alone is completed with it, and nothing else changes (R121). -/
theorem State.offer_refused {s : State} (h : s.Calm) {tag : Byte} {t : Tag} (ht : s.FreeTag tag t)
    (hawake : s.access ≠ .dormant) {auth : AuthBlock} {slot : Option SlotIndex} {r : Request}
    (hslot : blockSlot auth.slot = some slot) (hlength : r.fields.length ≤ 984)
    (hread : requestOf r.code r.fields = some r) {st : Status}
    (htest : (s.entered t ⟨r, slot.map fun i => (i, auth.secret)⟩).testRequest
        (Service.entered s t ⟨r, slot.map fun i => (i, auth.secret)⟩ .holdTest) =
      (s.entered t ⟨r, slot.map fun i => (i, auth.secret)⟩).answerPlain st) :
    s.offer (.request tag auth r) = s.answered t st r.code .noFields := by
  rw [State.offer_entered h ht hawake hslot hlength hread, htest, State.answerPlain, State.entered_answer h]
  exact State.settle_calm h

/-! ## Requests that pass the gate -/

/-- Stages 1 to 3 let a request other than UNLOCK through when no back-off runs and the slot is not CORRUPT (R99). -/
theorem State.gateRefusal_eq_none {s : State} {r : Request} {i : SlotIndex} (hbackoff : s.backoff = none)
    (hcorrupt : s.copies.credentials[i].corrupt = false) (hunlock : ∀ handover, r ≠ .unlock handover) :
    s.gateRefusal r i = none := by
  cases r with
  | unlock handover => exact absurd rfl (hunlock handover)
  | _ => simpa [State.gateRefusal, hbackoff] using hcorrupt

/-- A request that passed the gate has been taken through its kind test to its effect (R104). -/
def State.pastGate (s : State) (t : Tag) (r : Request) (i : SlotIndex) (secret : Secret) : State :=
  ((s.passed t ⟨r, some (i, secret)⟩).afterGate (Service.entered s t ⟨r, some (i, secret)⟩ .gateReset) i
    secret).writerOn.settle

/-- A request that meets an open gate is taken past it by the two counter writes (R100, R104). UNLOCK has a test of its own in
stage 2 (R99) and is not covered. -/
theorem State.Ready.reaches_pastGate {s : State} {tag : Byte} {t : Tag} {auth : AuthBlock} {i : SlotIndex}
    (hready : s.Ready tag t auth i) {r : Request} (hlength : r.fields.length ≤ 984)
    (hread : requestOf r.code r.fields = some r) (hneed : requestNeed r s.inStoreFault ≠ .ignored)
    (haccess : accessRefusal s.access r = none) (hserved : s.entryServes r true = true)
    (hunlock : ∀ handover, r ≠ .unlock handover) :
    runs (s.offer (.request tag auth r)) [.storeWriteCompletion, .storeWriteCompletion] =
      .next (s.pastGate t r i auth.secret) := by
  obtain ⟨hcalm, hfree, hslot, hbackoff, hcorrupt, hverifies, hidle, hwrap⟩ := hready
  have henvelope := readEnvelope_envelopeOf (blockSlot_of_toNat hslot) hlength hread
  obtain ⟨b, hoffer, hruns⟩ := gate_passes hcalm hfree henvelope hneed haccess hserved
    (State.gateRefusal_eq_none hbackoff hcorrupt hunlock) hidle hverifies
  have hkind : ∀ v, (s.passed t ⟨r, some (i, auth.secret)⟩).afterReset v i auth.secret =
      (s.passed t ⟨r, some (i, auth.secret)⟩).afterGate v i auth.secret := fun v => if_neg hwrap
  rw [State.pastGate, ← hkind, ← hruns, ← hoffer]
  rfl

/-- The answer of a request that passed the gate and wrote nothing more (R104, R121). -/
theorem State.passed_answer {s : State} (h : s.Calm) (hidle : s.writer = ⟨none, []⟩) (t : Tag) (e : Envelope) (st : Status)
    (f : Response) :
    ((s.passed t e).answer st f).writerOn.settle = s.grantedAnswer t st e.request.code f := by
  have hanswer : ((s.passed t e).answer st f).writerOn = s.grantedAnswer t st e.request.code f := by
    rw [State.answer_eq (s := s.passed t e) rfl rfl]
    have hentry : (s.table.set t Entry.ofControl).set t Entry.free = s.table.set t Entry.free := Vector.set_set ..
    simp only [State.passed, State.answered, State.grantedAnswer, State.granted, State.writerOn, Writer.beginNext,
      Service.entered, hentry]
    rw [← hidle, ← h.service]
  rw [hanswer]
  exact State.settle_calm h

/-- A credential of a kind its request does not allow passes the gate and is answered NOT_PERMITTED (R98, R104). -/
theorem State.pastGate_notPermitted {s : State} (h : s.Calm) (hidle : s.writer = ⟨none, []⟩) (t : Tag) {r : Request}
    {i : SlotIndex} (secret : Secret) (hkind : requestAllows r (s.credential i).kind = false) :
    s.pastGate t r i secret = s.grantedAnswer t .notPermitted r.code .noFields := by
  have hafter : (s.passed t ⟨r, some (i, secret)⟩).afterGate
      (Service.entered s t ⟨r, some (i, secret)⟩ .gateReset) i secret =
      (s.passed t ⟨r, some (i, secret)⟩).answer .notPermitted .noFields := if_neg (Bool.not_eq_true _ ▸ hkind)
  rw [State.pastGate, hafter, State.passed_answer h hidle]

/-- A request of an allowed credential that passed the gate has the effect its entry gives (R98, R104). -/
theorem State.pastGate_effect {s : State} (t : Tag) {r : Request} {i : SlotIndex} (secret : Secret)
    (hkind : requestAllows r (s.credential i).kind = true) :
    s.pastGate t r i secret =
      ((s.passed t ⟨r, some (i, secret)⟩).effect (Service.entered s t ⟨r, some (i, secret)⟩ .gateReset) i
        secret).writerOn.settle :=
  congrArg (fun u : State => u.writerOn.settle) (if_pos hkind)

/-! ## Requests that write the policy record -/

/-- A request that passed the gate awaits the write of the policy record that it answers with `f` (section 7.4). -/
def State.policyWriting (s : State) (t : Tag) (e : Envelope) (p : Policy) (f : Response) : State :=
  { s.passed t e with
    service := some (Service.entered s t e (.lastWrite f))
    writer := ⟨some ⟨.policy p, [.channel]⟩, []⟩ }

/-- A request that passed the gate finds the writer idle, so its write of the policy record begins at once (R87). -/
theorem State.passed_writePolicy {s : State} (h : s.Calm) (t : Tag) (e : Envelope) (p : Policy) (f : Response) :
    ((s.passed t e).writePolicy (Service.entered s t e .gateReset) p f).writerOn.settle = s.policyWriting t e p f :=
  State.settle_serving (s := s.policyWriting t e p f) (v := Service.entered s t e (.lastWrite f)) rfl rfl h.sessionEnd
    h.held h.lane h.dataLane

/-- The write of the policy record completes: the record and its working copy hold it, and the request is answered GOOD (R87,
section 7.4). -/
theorem exec_policyWriting {s : State} (h : s.Calm) (hidle : s.writer = ⟨none, []⟩) (t : Tag) (e : Envelope) (p : Policy)
    (f : Response) :
    exec .storeWriteCompletion (s.policyWriting t e p f) =
      .next ((s.grantedAnswer t .good e.request.code f).withPolicy p) := by
  have htold : ((s.policyWriting t e p f).landWrite ⟨.policy p, [.channel]⟩).channelTold.writerOn.settle =
      ((s.withPolicy p).passed t e |>.answer .good f).writerOn.settle := rfl
  rw [exec_channelWrite (u := s.policyWriting t e p f) h.power rfl rfl, htold]
  exact congrArg Host.Outcome.next (State.passed_answer (s := s.withPolicy p) h hidle t e .good f)

/-! ## SET ATTENTION -/

/-- SET ATTENTION is served without regard to its block wherever the access state does not refuse it (R130). -/
theorem State.offer_setAttention {s : State} (h : s.Calm) {tag : Byte} {t : Tag} (ht : s.FreeTag tag t)
    (hservice : s.InService) {auth : AuthBlock} {slot : Option SlotIndex} (hslot : blockSlot auth.slot = some slot) :
    s.offer (.request tag auth .setAttention) =
      { s.answered t .good 4 .noFields with attention := true } := by
  have hserved : ∀ block, (s.entered t ⟨.setAttention, block⟩).testRequest
      (Service.entered s t ⟨.setAttention, block⟩ .holdTest) =
      (({ s with attention := true } : State).entered t ⟨.setAttention, block⟩).answer .good .noFields := fun block =>
    State.testRequest_free (.inl rfl) (accessRefusal_inService (s := s) hservice .setAttention) rfl
  rw [State.offer_entered h ht hservice.not_dormant hslot (by decide) rfl, hserved,
    State.entered_answer (s := { s with attention := true }) h]
  exact State.settle_calm h

/-- SET ATTENTION in an access state that refuses it is completed with that refusal, and nothing else changes (R122, R130). -/
theorem State.offer_setAttention_refused {s : State} (h : s.Calm) {tag : Byte} {t : Tag} (ht : s.FreeTag tag t)
    (hawake : s.access ≠ .dormant) {auth : AuthBlock} {slot : Option SlotIndex} (hslot : blockSlot auth.slot = some slot)
    {st : Status} (hrefused : accessRefusal s.access .setAttention = some st) :
    s.offer (.request tag auth .setAttention) = s.answered t st 4 .noFields :=
  State.offer_refused h ht hawake hslot (by decide) rfl
    (State.testRequest_refused (fun hneed => AuthNeed.noConfusion hneed.1) hrefused)

/-! ## SET POLICY -/

theorem enclosureOf_eq {b : Byte} {e : EnclosurePolicy}
    (h : (b = 0 ∧ e = .ignore) ∨ (b = 1 ∧ e = .lock) ∨ (b = 2 ∧ e = .wipe)) : enclosureOf b = some e := by
  rcases h with ⟨rfl, rfl⟩ | ⟨rfl, rfl⟩ | ⟨rfl, rfl⟩ <;> rfl

theorem depthOf_eq {b : Byte} {d : Depth}
    (h : (b = 0 ∧ d = .keys) ∨ (b = 1 ∧ d = .media) ∨ (b = 2 ∧ d = .mediaAndImage)) : depthOf b = some d := by
  rcases h with ⟨rfl, rfl⟩ | ⟨rfl, rfl⟩ | ⟨rfl, rfl⟩ <;> rfl

theorem byte_ne_of_three_le {b : Byte} (h : 3 ≤ b.toNat) : b ≠ 0 ∧ b ≠ 1 ∧ b ≠ 2 := by
  refine ⟨?_, ?_, ?_⟩ <;> rintro rfl <;> exact absurd h (by decide)

theorem enclosureOf_eq_none {b : Byte} (h : 3 ≤ b.toNat) : enclosureOf b = none := by
  obtain ⟨h0, h1, h2⟩ := byte_ne_of_three_le h
  rw [enclosureOf, if_neg h0, if_neg h1, if_neg h2]

theorem depthOf_eq_none {b : Byte} (h : 3 ≤ b.toNat) : depthOf b = none := by
  obtain ⟨h0, h1, h2⟩ := byte_ne_of_three_le h
  rw [depthOf, if_neg h0, if_neg h1, if_neg h2]

/-- SET POLICY of an enclosure policy and a wipe depth among their values writes the policy taken (R134). -/
theorem State.serveSetPolicy_valid {enclosure depth : Byte} {e : EnclosurePolicy} {d : Depth}
    (he : enclosureOf enclosure = some e) (hd : depthOf depth = some d) (u : State) (v : Service) (f l a : Nat) :
    u.serveSetPolicy v f l a enclosure depth =
      u.writePolicy v (u.copies.policy.take u.isFinal f l a e d) (u.copies.policy.take u.isFinal f l a e d).answer := by
  simp only [State.serveSetPolicy, he, hd]

/-- SET POLICY of an enclosure policy or a wipe depth outside its values is answered INVALID (R134). -/
theorem State.serveSetPolicy_invalid {enclosure depth : Byte} (h : 3 ≤ enclosure.toNat ∨ 3 ≤ depth.toNat) (u : State)
    (v : Service) (f l a : Nat) : u.serveSetPolicy v f l a enclosure depth = u.answerPlain .invalid := by
  rcases h with h | h
  · simp only [State.serveSetPolicy, enclosureOf_eq_none h]
  · simp only [State.serveSetPolicy, depthOf_eq_none h]
    cases enclosureOf enclosure <;> rfl

/-- The fields of SET POLICY, its five bytes, read back (R60). -/
theorem requestOf_setPolicy (f l a enclosure depth : Byte) :
    requestOf (Request.setPolicy f l a enclosure depth).code (Request.setPolicy f l a enclosure depth).fields =
      some (.setPolicy f l a enclosure depth) := by
  simp [requestOf, byteAt, Request.code, Request.fields]

theorem length_setPolicy_fields (f l a enclosure depth : Byte) :
    (Request.setPolicy f l a enclosure depth).fields.length ≤ 984 := by simp [Request.fields]

theorem requestNeed_setPolicy (f l a enclosure depth : Byte) (storeFault : Bool) :
    requestNeed (.setPolicy f l a enclosure depth) storeFault = .required := rfl

/-- SET POLICY allows the owner alone (section 7.9). -/
theorem requestAllows_setPolicy (f l a enclosure depth : Byte) (k : CredentialKind) :
    requestAllows (.setPolicy f l a enclosure depth) k = decide (k = .owner) := rfl

/-- SET POLICY that meets an open gate outside BLANK is taken past it (R104, R134). -/
theorem State.Ready.setPolicy_reaches_pastGate {s : State} {tag : Byte} {t : Tag} {auth : AuthBlock} {i : SlotIndex}
    (hready : s.Ready tag t auth i) (hopen : s.access = .locked ∨ s.access = .staged ∨ s.access = .opened)
    (f l a enclosure depth : Byte) :
    runs (s.offer (.request tag auth (.setPolicy f l a enclosure depth))) [.storeWriteCompletion, .storeWriteCompletion] =
      .next (s.pastGate t (.setPolicy f l a enclosure depth) i auth.secret) := by
  have hserved : s.entryServes (.setPolicy f l a enclosure depth) true = true := by
    rcases hopen with h | h | h <;> simp [State.entryServes, h]
  exact hready.reaches_pastGate (length_setPolicy_fields ..) (requestOf_setPolicy ..)
    (by rw [requestNeed_setPolicy]; decide) (accessRefusal_inService (.inr hopen) _) hserved nofun

/-- SET POLICY of the owner with valid codes, past the gate, awaits the write of the policy taken (R134). -/
theorem State.pastGate_setPolicy_valid {s : State} (h : s.Calm) (t : Tag) {i : SlotIndex} (secret : Secret)
    (howner : (s.credential i).kind = .owner) (f l a : Byte) {enclosure depth : Byte} {e : EnclosurePolicy} {d : Depth}
    (he : enclosureOf enclosure = some e) (hd : depthOf depth = some d) {p : Policy}
    (hp : p = s.copies.policy.take s.isFinal f.toNat l.toNat a.toNat e d) :
    s.pastGate t (.setPolicy f l a enclosure depth) i secret =
      s.policyWriting t ⟨.setPolicy f l a enclosure depth, some (i, secret)⟩ p p.answer := by
  have heffect : ∀ g v, (s.passed t g).serveSetPolicy v f.toNat l.toNat a.toNat enclosure depth =
      (s.passed t g).writePolicy v p p.answer := fun g v =>
    (State.serveSetPolicy_valid he hd (s.passed t g) v f.toNat l.toNat a.toNat).trans (by rw [hp]; rfl)
  rw [State.pastGate_effect t secret ((requestAllows_setPolicy ..).trans (decide_eq_true howner)),
    ← State.passed_writePolicy h, ← heffect]
  rfl

/-- SET POLICY of the owner with a code outside its values, past the gate, is answered INVALID (R134). -/
theorem State.pastGate_setPolicy_invalid {s : State} (h : s.Calm) (hidle : s.writer = ⟨none, []⟩) (t : Tag) {i : SlotIndex}
    (secret : Secret) (howner : (s.credential i).kind = .owner) (f l a : Byte) {enclosure depth : Byte}
    (hcode : 3 ≤ enclosure.toNat ∨ 3 ≤ depth.toNat) :
    s.pastGate t (.setPolicy f l a enclosure depth) i secret = s.grantedAnswer t .invalid 64 .noFields := by
  have heffect := State.serveSetPolicy_invalid hcode
  rw [State.pastGate_effect t secret ((requestAllows_setPolicy ..).trans (decide_eq_true howner))]
  exact (congrArg (fun u : State => u.writerOn.settle) (heffect ..)).trans (State.passed_answer h hidle ..)

end Sys2Proof.Machine

/-! ## SET ATTENTION and SET POLICY settled -/

/-- Settles O27: SET ATTENTION ignores its block, so only the access state decides. -/
theorem setAttention : Obligations.SetAttention := by
  unfold Obligations.SetAttention
  intro s tag t auth hcalm hfree hblock
  obtain ⟨slot, hslot⟩ := Option.ne_none_iff_exists'.mp hblock
  refine ⟨fun hservice => ⟨?good, ?line⟩, fun hwiping => ?wiping, fun hfault => ?fault⟩
  case good => exact congrArg Host.Outcome.next (State.offer_setAttention hcalm hfree hservice hslot)
  case line =>
    intro hnotices
    have hpower : (s.answered t .good 4 .noFields).power = .running := hcalm.power
    have hkept : (s.answered t .good 4 .noFields).notices ≠ NoticeSet.empty := hnotices
    simp [State.attentionLine, hpower, hkept]
  case wiping =>
    exact congrArg Host.Outcome.next (State.offer_setAttention_refused hcalm hfree (by rw [hwiping]; decide) hslot
      (by rw [hwiping]; rfl))
  case fault =>
    exact congrArg Host.Outcome.next (State.offer_setAttention_refused hcalm hfree (by rw [hfault]; decide) hslot
      (by rw [hfault]; rfl))

/-- Settles O48: past the gate SET POLICY writes the policy record once and answers as that write completes; every other
outcome is an answer before the gate, or one after it that writes nothing more. -/
theorem setPolicyWritesTheValuesTaken : Obligations.SetPolicyWritesTheValuesTaken := by
  unfold Obligations.SetPolicyWritesTheValuesTaken
  intro s tag t auth i f l a enclosure depth hready
  have hgate := fun hopen => hready.setPolicy_reaches_pastGate hopen f l a enclosure depth
  obtain ⟨hcalm, hfree, hslot, _, _, _, hidle, _⟩ := hready
  refine ⟨fun hopen howner => ⟨?valid, ?invalid⟩, fun hblank => ?blank, fun hopen hother => ?other, fun hawake x => ?noBlock⟩
  case valid =>
    rintro e d p he hd rfl
    have hwriting := State.pastGate_setPolicy_valid hcalm t auth.secret howner f l a (enclosureOf_eq he) (depthOf_eq hd) rfl
    refine ⟨rfl, rfl, rfl, _, rfl, ?_⟩
    refine (runs_replicate (m := 2) .storeWriteCompletion 1 (hgate hopen)).trans ?_
    simp only [hwriting, List.replicate, runs, exec_policyWriting hcalm hidle]
    rfl
  case invalid =>
    intro hcode
    refine ⟨_, rfl, (hgate hopen).trans ?_⟩
    rw [State.pastGate_setPolicy_invalid hcalm hidle t auth.secret howner f l a hcode]
  case blank =>
    exact congrArg Host.Outcome.next (State.offer_refused hcalm hfree (by rw [hblank]; decide) (blockSlot_of_toNat hslot)
      (length_setPolicy_fields ..) (requestOf_setPolicy f l a enclosure depth)
      (State.testRequest_wrongState (by simp [Service.entered]) (accessRefusal_inService (s := s) (.inl hblank) _)
        (decide_eq_false (not_not_intro hblank))))
  case other =>
    refine ⟨_, rfl, (hgate hopen).trans ?_⟩
    rw [State.pastGate_notPermitted hcalm hidle t auth.secret ((requestAllows_setPolicy ..).trans (decide_eq_false hother))]
    rfl
  case noBlock =>
    exact congrArg Host.Outcome.next (State.offer_refused (auth := ⟨noBlock, x⟩) hcalm hfree hawake blockSlot_noBlock
      (length_setPolicy_fields ..) (requestOf_setPolicy f l a enclosure depth) (State.testRequest_noBlock rfl rfl))

end

section
/-! Proofs/PowerExit.lean: POWER EXIT outside DORMANT (R172, R176). No tag holds a notice back, so the lane takes it even
while a POWER ENTER is held for drain; what it then does is sent on the ports, and leaves nothing to follow. -/

open Sys2Proof Sys2Proof.Machine

namespace Sys2Proof.Machine

/-! ## A notice on the lane -/

/-- The code of a notice reads back as that notice (section 3.10). -/
@[simp] theorem kindOfByte_noticeCode (n : Notice) : kindOfByte n.code = .notice n := by cases n <;> rfl

/-- An ORPHANED entry holds back only tagged capsules, so no notice (R42, R47). -/
theorem State.blocked_notice (s : State) (n : Notice) : s.blocked (.plain n.code 0 []) = false := by
  simp [State.blocked, Capsule.plain]

/-- A notice taken from the lane is acted on (R55). -/
theorem State.takeCapsule_notice (s : State) (n : Notice) : s.takeCapsule (.plain n.code 0 []) = s.takeNotice n := by
  simp [State.takeCapsule, Capsule.plain]

/-- A notice offered while a POWER ENTER is held for drain is taken (R55, R170). -/
theorem State.offer_notice_held {s : State} (h : ({ s with heldPowerEnter := false } : State).Calm)
    (hn : s.noneForwarded = false) (n : Notice) : s.offer (.plain n.code 0 []) = (s.takeNotice n).settle := by
  rw [State.offer_held h hn _ (s.blocked_notice n), s.takeCapsule_notice]

/-! ## Messages about notices leave the part calm -/

theorem State.Calm.answeredNotice {s : State} (h : s.Calm) (n : Notice) (st : Status) : (s.answeredNotice n st).Calm := h

theorem State.Calm.acknowledged {s : State} (h : s.Calm) (n : Notice) (st : Status) : (s.acknowledged n st).Calm := h

/-! ## What a POWER EXIT does -/

/-- Outside DORMANT, and with no POWER ENTER to withdraw, a POWER EXIT is only forwarded and acknowledged (R176). -/
theorem State.takePowerExit_awake {s : State} (hheld : s.heldPowerEnter = false) (hawake : s.access ≠ .dormant) :
    s.takePowerExit = s.answeredNotice .powerExit .good := by
  unfold State.takePowerExit
  rw [if_neg (by simp [hheld]), if_neg hawake]
  rfl

/-- A held POWER ENTER is withdrawn before the POWER EXIT is forwarded and acknowledged (R172). -/
theorem State.takePowerExit_withdraws {s : State} (hheld : s.heldPowerEnter = true) :
    s.takePowerExit =
      ({ s with heldPowerEnter := false }.acknowledged .powerEnter .aborted).answeredNotice .powerExit .good := by
  unfold State.takePowerExit
  rw [if_pos hheld]
  rfl

end Sys2Proof.Machine

/-! ## POWER EXIT settled -/

/-- Settles O25: with or without a hold to withdraw, the POWER EXIT is taken at once and leaves a calm part. -/
theorem powerExitOutsideDormant : Obligations.PowerExitOutsideDormant := by
  unfold Obligations.PowerExitOutsideDormant
  intro s
  refine ⟨?awake, ?withdraws⟩
  case awake =>
    intro hcalm hawake
    have htaken := State.takePowerExit_awake hcalm.held hawake
    have hrest : s.takePowerExit.Calm := htaken ▸ hcalm.answeredNotice .powerExit .good
    refine congrArg Host.Outcome.next ?_
    calc s.offer (.plain (Notice.code .powerExit) 0 [])
      _ = s.takePowerExit.settle := State.offer_notice hcalm .powerExit
      _ = s.takePowerExit := State.settle_calm hrest
      _ = s.answeredNotice .powerExit .good := htaken
  case withdraws =>
    intro hcalm hheld hforwarded
    have htaken := State.takePowerExit_withdraws hheld
    have hrest : s.takePowerExit.Calm :=
      htaken ▸ (hcalm.acknowledged .powerEnter .aborted).answeredNotice .powerExit .good
    refine congrArg Host.Outcome.next ?_
    calc s.offer (.plain (Notice.code .powerExit) 0 [])
      _ = s.takePowerExit.settle := State.offer_notice_held hcalm hforwarded .powerExit
      _ = s.takePowerExit := State.settle_calm hrest
      _ = _ := htaken

end

section
/-! Proofs/ByteLayouts.lean: requests, envelopes and capsules read back from their bytes (section 3.10, R57 to R60). Each field
is read at the place where the encoder put it; a request's code selects the one branch of the decoder that reads its fields. -/

open Sys2Proof Sys2Proof.Machine

namespace Sys2Proof

/-! ## Fields of a request -/

/-- A field that is the whole run of bytes. -/
theorem fieldAt_whole (m : List Byte) (w : Nat) (hm : m.length = w) : fieldAt m 0 w = leNat m := by
  simpa using fieldAt_zero m [] w hm

/-- A field with nothing behind it. -/
theorem fieldAt_last {m : List Byte} (p : List Byte) (o w : Nat) (hp : p.length = o) (hm : m.length = w) :
    fieldAt (p ++ m) o w = leNat m := by
  simpa using fieldAt_append p m [] o w hp hm

/-- SET CREDENTIAL: three codes, a secret, and the reveal list behind its count byte (R60). -/
theorem requestOf_setCredential (target kind state : Byte) (secret : Secret) (reveal : List Byte)
    (h : reveal.length ≤ 255) :
    requestOf 19 (Request.setCredential target kind state secret reveal).fields =
      some (.setCredential target kind state secret reveal) := by
  have hsecret : fieldAt (Request.setCredential target kind state secret reveal).fields 3 32 =
      leNat (leBytes 32 secret.toNat) := fieldAt_append [target, kind, state] _ _ 3 32 rfl (length_leBytes ..)
  have hcount : byteAt (Request.setCredential target kind state secret reveal).fields 35 =
      BitVec.ofNat 8 reveal.length :=
    byteAt_append ([target, kind, state] ++ leBytes 32 secret.toNat) reveal _ 35 (by simp [length_leBytes])
  have hreveal : (Request.setCredential target kind state secret reveal).fields.drop 36 = reveal := by
    simp [Request.fields, length_leBytes, List.drop_append]
  have hlength : (Request.setCredential target kind state secret reveal).fields.length = 36 + reveal.length := by
    simp [Request.fields, length_leBytes]; omega
  have hbytes : byteAt (Request.setCredential target kind state secret reveal).fields 0 = target ∧
      byteAt (Request.setCredential target kind state secret reveal).fields 1 = kind ∧
      byteAt (Request.setCredential target kind state secret reveal).fields 2 = state := ⟨rfl, rfl, rfl⟩
  simp only [requestOf, hsecret, hcount, hreveal, hlength, hbytes.1, hbytes.2.1, hbytes.2.2, toNat_ofNat_byte _ h,
    secret_leBytes, List.take_length]
  simp

/-- DEFINE RANGE: three codes and, past five bytes that say nothing, start and length (R60). -/
theorem requestOf_defineRange (index flags lockOn : Byte) (start length : BitVec 48) :
    requestOf 48 (Request.defineRange index flags lockOn start length).fields =
      some (.defineRange index flags lockOn start length) := by
  have hstart : fieldAt (Request.defineRange index flags lockOn start length).fields 8 6 = leNat (leBytes 6 start.toNat) :=
    fieldAt_append [index, flags, lockOn, 0, 0, 0, 0, 0] _ _ 8 6 rfl (length_leBytes ..)
  have hlength : fieldAt (Request.defineRange index flags lockOn start length).fields 14 6 =
      leNat (leBytes 6 length.toNat) :=
    fieldAt_last ([index, flags, lockOn, 0, 0, 0, 0, 0] ++ leBytes 6 start.toNat) 14 6 (by simp [length_leBytes])
      (length_leBytes ..)
  have hbytes : byteAt (Request.defineRange index flags lockOn start length).fields 0 = index ∧
      byteAt (Request.defineRange index flags lockOn start length).fields 1 = flags ∧
      byteAt (Request.defineRange index flags lockOn start length).fields 2 = lockOn := ⟨rfl, rfl, rfl⟩
  have hcount : (Request.defineRange index flags lockOn start length).fields.length = 20 := by
    simp [Request.fields, length_leBytes]
  simp [requestOf, hstart, hlength, hbytes, hcount, lba_leBytes]

/-- SET LOCKS: three bytes for each entry that the count byte names (R60). -/
theorem requestOf_setLocks (entries : List LockEntry) (h : entries.length ≤ 255) :
    requestOf 33 (Request.setLocks entries).fields = some (.setLocks entries) := by
  have hcount : byteAt (Request.setLocks entries).fields 0 = BitVec.ofNat 8 entries.length := rfl
  have hentries : lockEntries entries.length (Request.setLocks entries).fields.tail = entries := by
    simpa [Request.fields] using lockEntries_bytes entries []
  have hlength : (Request.setLocks entries).fields.length = 1 + 3 * entries.length := by
    simp only [Request.fields, List.length_cons, length_lockEntry_bytes]; omega
  simp [requestOf, hcount, toNat_ofNat_byte _ h, hentries, hlength]

/-- The fields of a request that can be written read back as the request (R60). -/
theorem requestOf_fields {r : Request} (h : r.wellFormed = true) : requestOf r.code r.fields = some r := by
  cases r with
  | setCredential target kind state secret reveal =>
    exact requestOf_setCredential _ _ _ _ _ (by simpa [Request.wellFormed, WellFormed.listFits] using h)
  | defineRange index flags lockOn start length => exact requestOf_defineRange ..
  | setLocks entries => exact requestOf_setLocks _ (by simpa [Request.wellFormed, WellFormed.listFits] using h)
  | lock ranges =>
    have hcount : ranges.length ≤ 255 := by simpa [Request.wellFormed, WellFormed.listFits] using h
    have hbyte : byteAt (BitVec.ofNat 8 ranges.length :: ranges) 0 = BitVec.ofNat 8 ranges.length := rfl
    simp only [Request.code, Request.fields, requestOf, hbyte, toNat_ofNat_byte _ hcount]
    simp
    omega
  | takeOwnership secret | changeSecret secret =>
    simp [requestOf, Request.code, Request.fields, fieldAt_whole _ _ (length_leBytes 32 _), length_leBytes, secret_leBytes]
  | presentPlatform token =>
    simp [requestOf, Request.code, Request.fields, fieldAt_whole _ _ (length_leBytes 64 _), length_leBytes, token_leBytes]
  | bindPlatform policy token =>
    have htoken : fieldAt (policy :: leBytes 64 token.toNat) 1 64 = leNat (leBytes 64 token.toNat) :=
      fieldAt_last (m := leBytes 64 token.toNat) [policy] 1 64 rfl (length_leBytes 64 _)
    simp [requestOf, Request.code, Request.fields, htoken, length_leBytes, token_leBytes, byteAt]
  | setPolicy f l a enclosure depth => exact requestOf_setPolicy f l a enclosure depth
  | unlock _ | deleteRange _ | eraseRange _ => simp [requestOf, Request.code, Request.fields, byteAt]
  | _ => rfl

/-- The fields of a request that can be written fit an envelope of 1024 bytes (R59, R60). -/
theorem length_fields_le {r : Request} (h : r.wellFormed = true) : r.fields.length ≤ 984 := by
  cases r with
  | setLocks entries =>
    have : entries.length ≤ 255 := by simpa [Request.wellFormed, WellFormed.listFits] using h
    simp only [Request.fields, List.length_cons, length_lockEntry_bytes]
    omega
  | setCredential target kind state secret reveal =>
    have : reveal.length ≤ 255 := by simpa [Request.wellFormed, WellFormed.listFits] using h
    simp [Request.fields, length_leBytes]
    omega
  | lock ranges =>
    have : ranges.length ≤ 255 := by simpa [Request.wellFormed, WellFormed.listFits] using h
    simp [Request.fields]
    omega
  | _ => simp [Request.fields, length_leBytes]

end Sys2Proof

/-- Settles O1: the fields of every request that can be written read back, and fit the envelope. -/
theorem envelopeDecodes : Obligations.EnvelopeDecodes := by
  unfold Obligations.EnvelopeDecodes
  intro auth r slot hwf hslot
  exact readEnvelope_envelopeOf hslot (length_fields_le hwf) (requestOf_fields hwf)

/-- Settles O2: each field of the header is read where it was written, and the length field tells the envelope's end. -/
theorem capsuleBytesDecode : Obligations.CapsuleBytesDecode := by
  unfold Obligations.CapsuleBytesDecode
  intro c rest hkind
  let header : List Byte := [c.kind, c.tag] ++ leBytes 2 c.count.toNat ++ leBytes 6 c.lba.toNat ++ [0, 0] ++
    leBytes 4 c.envelope.length
  have hheader : header.length = 16 := by simp [header, length_leBytes]
  have hbytes : c.bytes ++ rest = header ++ (c.envelope ++ rest) := by simp [Capsule.bytes, header]
  have hcount : fieldAt (c.bytes ++ rest) 2 2 = c.count.toNat := by
    rw [hbytes, show header ++ (c.envelope ++ rest) = [c.kind, c.tag] ++ leBytes 2 c.count.toNat ++
      (leBytes 6 c.lba.toNat ++ [0, 0] ++ leBytes 4 c.envelope.length ++ (c.envelope ++ rest)) by simp [header],
      fieldAt_append _ _ _ 2 2 rfl (length_leBytes ..), leNat_leBytes, Nat.mod_eq_of_lt (by have := c.count.isLt; omega)]
  have hlba : fieldAt (c.bytes ++ rest) 4 6 = c.lba.toNat := by
    rw [hbytes, show header ++ (c.envelope ++ rest) = ([c.kind, c.tag] ++ leBytes 2 c.count.toNat) ++
      leBytes 6 c.lba.toNat ++ ([0, 0] ++ leBytes 4 c.envelope.length ++ (c.envelope ++ rest)) by simp [header],
      fieldAt_append _ _ _ 4 6 (by simp [length_leBytes]) (length_leBytes ..), leNat_leBytes, Nat.mod_eq_of_lt (by have := c.lba.isLt; omega)]
  have hstated : (if byteAt (c.bytes ++ rest) 0 = Kind.code .control then fieldAt (c.bytes ++ rest) 12 4 else 0) =
      c.envelope.length := by
    have hfirst : byteAt (c.bytes ++ rest) 0 = c.kind := rfl
    rw [hfirst]
    rcases hkind with ⟨hcontrol, hfits⟩ | ⟨hother, hempty⟩
    · have hfits : c.envelope.length < 256 ^ 4 := of_decide_eq_true hfits
      rw [if_pos hcontrol, hbytes, show header ++ (c.envelope ++ rest) = ([c.kind, c.tag] ++ leBytes 2 c.count.toNat ++
        leBytes 6 c.lba.toNat ++ [0, 0]) ++ leBytes 4 c.envelope.length ++ (c.envelope ++ rest) by simp [header],
        fieldAt_append _ _ _ 12 4 (by simp [length_leBytes]) (length_leBytes ..), leNat_leBytes, Nat.mod_eq_of_lt hfits]
    · rw [if_neg hother, hempty]
      rfl
  have hlength : (c.bytes ++ rest).length = 16 + c.envelope.length + rest.length := by
    rw [hbytes, List.length_append, hheader, List.length_append]
    omega
  have henvelope : ((c.bytes ++ rest).drop 16).take c.envelope.length = c.envelope := by
    rw [hbytes, List.drop_left' hheader, List.take_left' rfl]
  have hrest : (c.bytes ++ rest).drop (16 + c.envelope.length) = rest := by
    rw [hbytes, ← List.append_assoc]
    exact List.drop_left' (by rw [List.length_append, hheader])
  unfold readCapsule
  rw [if_neg (by omega)]
  simp only [hstated]
  rw [if_neg (by omega), hcount, hlba, henvelope, hrest]
  simp only [BitVec.ofNat_toNat, BitVec.setWidth_eq]
  rfl

/-- Settles O3. -/
theorem stepRunsTheFrontCommand : Obligations.StepRunsTheFrontCommand := by
  unfold Obligations.StepRunsTheFrontCommand
  intro c rest s hpending
  unfold step
  rw [hpending]

end

section
/-! Proofs/DataCapsules.lean: capsules on the lane (sections 2.1, 3.1 to 3.3): what the tag test discards or holds back, what the
access state refuses, what the stages decide of a READ, WRITE or DEALLOCATE, and how FLUSH and IDENTIFY are bound. -/

open Sys2Proof Sys2Proof.Machine

namespace Sys2Proof.Machine

theorem State.Calm.completed {s : State} (h : s.Calm) (k : Byte) (t : Tag) (st : Status) : (s.completed k t st).Calm := h

theorem State.Calm.bound {s : State} (h : s.Calm) (t : Tag) (k : Kind) (v c : Nat) (gs : List Segment)
    (capacity : Option Nat) : (s.bound t k v c gs capacity).Calm := h

theorem State.Calm.noticed {s : State} (h : s.Calm) (n : NoticeSet → NoticeSet) : (s.noticed n).Calm := h

/-- A capsule is answered with a status alone (R23). -/
theorem State.refuse_eq (s : State) (k : Byte) (t : Tag) (st : Status) :
    s.refuse k (BitVec.ofNat 8 t.val) st = s.completed k t st := rfl

theorem State.notify_protocolError (s : State) : s.notify .protocolError = s.noticed NoticeSet.withProtocolError := rfl

/-! ## The lock check (R28, R29) -/

/-- What lets a piece pass the lock check, in the words of R28 and R29. -/
theorem State.passes_iff (s : State) (w : View) {k : Kind} (hk : k = .read ∨ k = .write ∨ k = .deallocate) (p : Piece) :
    s.passes w k p = true ↔ if w.kind = .image
      then if k = .read then s.access = .locked ∨ s.access = .staged else s.access = .locked ∧ s.latch = true
      else (if k = .read then s.locks[p.range].readLock else s.locks[p.range].writeLock) = false ∧
        s.slots[p.range].state = .loaded := by
  unfold State.passes
  cases hw : w.kind <;> rcases hk with rfl | rfl | rfl <;> simp [State.imagePasses, State.keyedPasses]

/-- The stages of a capsule that passed the count check, the bounds check and the split: the lock check decides (R28). -/
theorem State.resolve_locks {s : State} {k : Kind} {v c : Nat} {w : View} {ps : List Piece} (hlow : 1 ≤ c)
    (hhigh : c ≤ 1024) (hview : s.view = some w) (hbound : v + c ≤ w.capacity) (hsplit : w.split v c = some ps) :
    s.resolve k v c = if ps.all (s.passes w k) then .pieces ps else .refused .locked := by
  unfold State.resolve
  rw [if_neg (by omega), hview]
  dsimp only
  rw [if_neg (by omega), hsplit]

/-! ## Refusals of the access state (R23) -/

/-- A data capsule that the access state refuses is completed with that status. -/
theorem State.admitData_refused {s : State} {st : Status} (h : s.dataRefusal = some st) (t : Tag) (k : Kind)
    (c : Capsule) : s.admitData t k c = s.completed k.code t st := by
  unfold State.admitData
  rw [h]
  rfl

/-- The two ways in which a data capsule is refused before its stages: by an access state outside service, or by a POWER ENTER
held for drain. -/
theorem State.offer_data_refused {s : State} {st : Status}
    (h : (s.Calm ∧ ((s.access = .wiping ∧ st = .wiped) ∨ (s.access = .dormant ∧ st = .dormant) ∨
        (s.access = .fault ∧ st = .fault))) ∨
      (({ s with heldPowerEnter := false } : State).Calm ∧ s.InService ∧ s.heldPowerEnter = true ∧
        s.noneForwarded = false ∧ st = .dormant))
    {t : Tag} {k : Kind} (hk : k ≠ .control) {c : Capsule} (ht : s.FreeTag c.tag t) (hc : c.kind = k.code) :
    s.offer c = s.completed k.code t st := by
  have hkind : kindOfByte c.kind = .tagged k := by rw [hc, kindOfByte_code]
  rcases h with ⟨hcalm, haccess⟩ | ⟨hcalm, hservice, hheld, hforwarded, rfl⟩
  · have hrefusal : s.dataRefusal = some st := by
      unfold State.dataRefusal
      rcases haccess with ⟨ha, rfl⟩ | ⟨ha, rfl⟩ | ⟨ha, rfl⟩ <;> rw [ha]
    rw [State.offer_data hcalm ht hkind hk, State.admitData_refused hrefusal]
    exact State.settle_calm (hcalm.completed ..)
  · have hrefusal : s.dataRefusal = some .dormant := by
      unfold State.dataRefusal
      rcases hservice with ha | ha | ha | ha <;> rw [ha] <;> exact if_pos hheld
    have htaken : s.takeCapsule c = s.completed k.code t .dormant := by
      rw [← State.admitData_refused hrefusal t k c]
      unfold State.takeCapsule State.takeTagged State.admitCapsule
      simp only [hkind, tagOf_eq ht.1, ht.2]
    rw [State.offer_held hcalm hforwarded c (State.blocked_free ht), htaken]
    exact State.settle_held (s := s.completed k.code t .dormant) hcalm hforwarded

/-! ## The tag test (R45, R47) -/

/-- A capsule whose tag byte is above 31, or names an entry in use that no link reset has orphaned, is discarded. -/
theorem State.takeCapsule_badTag {s : State} {cap : Capsule} (hk : ∀ n, kindOfByte cap.kind ≠ .notice n)
    (ht : tagOf cap.tag = none ∨ ∃ t, tagOf cap.tag = some t ∧
      (s.table[t].state = .forwarded ∨ s.table[t].state = .control ∨ s.table[t].state = .aborting)) :
    s.blocked cap = false ∧ s.takeCapsule cap = s.noticed NoticeSet.withProtocolError := by
  have htagged : s.takeCapsule cap = s.takeTagged cap := by
    unfold State.takeCapsule
    split
    · exact absurd ‹_› (hk _)
    all_goals rfl
  rw [htagged]
  unfold State.blocked State.takeTagged
  rcases ht with ht | ⟨t, ht, hstate⟩
  · simp only [ht]
    exact ⟨by split <;> rfl, rfl⟩
  · simp only [ht]
    rcases hstate with h | h | h <;> simp only [h] <;> exact ⟨by split <;> simp [-Fin.getElem_fin, h], rfl⟩

/-- A tagged capsule on an ORPHANED entry is held back (R42). -/
theorem State.blocked_orphaned {s : State} {cap : Capsule} {t : Tag} (hk : ∀ n, kindOfByte cap.kind ≠ .notice n)
    (ht : tagOf cap.tag = some t) (ho : s.table[t].state = .orphaned) : s.blocked cap = true := by
  unfold State.blocked
  split
  · exact absurd ‹_› (hk _)
  all_goals simp [-Fin.getElem_fin, ht, ho]

end Sys2Proof.Machine

/-- Settles O4. -/
theorem dataCapsuleGoesByItsStages : Obligations.DataCapsuleGoesByItsStages := by
  unfold Obligations.DataCapsuleGoesByItsStages
  intro s tag t lba count hcalm hfree hservice
  have hoffer := fun k hk => State.offer_addressed hcalm hfree hservice (k := k) hk lba count
  exact ⟨congrArg Host.Outcome.next (hoffer .read (by simp)), congrArg Host.Outcome.next (hoffer .write (by simp)),
    congrArg Host.Outcome.next (hoffer .deallocate (by simp))⟩

/-- Settles O8: past the other stages the lock check alone decides between the pieces and LOCKED. -/
theorem lockCheck : Obligations.LockCheck := by
  unfold Obligations.LockCheck
  intro s tag t k lba count w ps c hcalm hfree hservice hlow hhigh hview hbound hsplit hc
  have hk : k = .read ∨ k = .write ∨ k = .deallocate := by rcases hc with ⟨h, _⟩ | ⟨h, _⟩ | ⟨h, _⟩ <;> simp [h]
  have hexec : exec c s = .next (s.addressed t k lba.toNat count.toNat
      (if ps.all (s.passes w k) then .pieces ps else .refused .locked)) := by
    rw [← State.resolve_locks hlow hhigh hview hbound hsplit, ← State.offer_addressed hcalm hfree hservice hk]
    rcases hc with ⟨rfl, rfl⟩ | ⟨rfl, rfl⟩ | ⟨rfl, rfl⟩ <;> rfl
  rw [hexec]
  constructor
  · intro hpass
    rw [if_pos (List.all_eq_true.mpr fun p hp => (s.passes_iff w hk p).mpr (hpass p hp))]
    simp only [State.addressed, hview, Option.map_some, Option.getD_some]
  · rintro ⟨p, hp, hfail⟩
    rw [if_neg fun hall => hfail ((s.passes_iff w hk p).mp (List.all_eq_true.mp hall p hp))]
    rfl

/-- Settles O9: in service neither kind meets a stage, so each is bound at once. -/
theorem flushAndIdentifyBound : Obligations.FlushAndIdentifyBound := by
  unfold Obligations.FlushAndIdentifyBound
  intro s tag t hcalm hfree hservice
  have hrefusal := State.dataRefusal_none hcalm hservice
  refine ⟨congrArg Host.Outcome.next ?flush, congrArg Host.Outcome.next ?identify⟩
  case flush =>
    rw [State.offer_data (k := .flush) hcalm hfree rfl (by decide), State.admitData, hrefusal]
    dsimp only
    rw [State.bind_eq, State.settle_calm (hcalm.bound ..)]
  case identify =>
    rw [State.offer_data (k := .identify) hcalm hfree rfl (by decide), State.admitData, hrefusal]
    dsimp only
    rw [State.bind_eq, State.settle_calm (hcalm.bound ..)]

/-- Settles O10. -/
theorem dataCapsuleRefusedByAccess : Obligations.DataCapsuleRefusedByAccess := by
  unfold Obligations.DataCapsuleRefusedByAccess
  intro s tag t lba count st hfree h
  exact ⟨congrArg Host.Outcome.next (State.offer_data_refused h (k := .read) (by decide) hfree rfl),
    congrArg Host.Outcome.next (State.offer_data_refused h (k := .write) (by decide) hfree rfl),
    congrArg Host.Outcome.next (State.offer_data_refused h (k := .deallocate) (by decide) hfree rfl),
    congrArg Host.Outcome.next (State.offer_data_refused h (k := .flush) (by decide) hfree rfl),
    congrArg Host.Outcome.next (State.offer_data_refused h (k := .identify) (by decide) hfree rfl)⟩

/-- Settles O11: the tag test comes before everything else that is done with a tagged capsule. -/
theorem tagsTestedFirst : Obligations.TagsTestedFirst := by
  unfold Obligations.TagsTestedFirst
  refine ⟨⟨?undefined, ?discarded⟩, fun s c cap hcap => ⟨?held, ?behind⟩⟩
  case undefined =>
    intro s kind tag t hcalm hfree hundefined
    have hkind : kindOfByte kind = .undefined := by
      simp only [WellFormed.undefinedKind, definedKinds, List.contains_cons, List.contains_nil, Bool.or_false,
        Bool.not_eq_true', Bool.or_eq_false_iff, beq_eq_false_iff_ne] at hundefined
      simp only [kindOfByte, hundefined, if_false]
    refine congrArg Host.Outcome.next ?_
    rw [State.offer_free hcalm (c := .plain kind tag []) hfree (by simp [Capsule.plain, hkind]), State.admitCapsule]
    simp only [Capsule.plain, hkind]
    exact State.settle_calm (hcalm.completed ..)
  case discarded =>
    intro s c cap hcalm hcap hk ht
    obtain ⟨hblocked, htaken⟩ := State.takeCapsule_badTag hk ht
    rw [exec_capsule hcap (State.owesAnswer_of_service hcalm.service), State.offer_calm hcalm cap hblocked, htaken,
      State.settle_calm (hcalm.noticed _)]
  case held =>
    rintro ⟨hcalm, hk, t, ht, ho⟩
    have hlane : ({ s with lane := [] } : State) = s := by rw [← hcalm.lane]
    rw [exec_capsule hcap (State.owesAnswer_of_service hcalm.service),
      State.offer_blocked (head := cap) (rest := []) (by rw [hcalm.lane]; rfl) (by rw [hlane]; exact hcalm)
        (State.blocked_orphaned hk ht ho), hcalm.lane]
    rfl
  case behind =>
    intro head rest hlane hcalm hblocked
    rw [exec_capsule hcap (State.owesAnswer_of_service (s := s) hcalm.service),
      State.offer_blocked (head := head) (rest := rest ++ [cap]) (by rw [hlane]; rfl) hcalm hblocked]

end

section
/-! Proofs/Split.lean: the extent lookup and the split of a data capsule (R10, R26, R27). In a view whose entries stand one after
another the lookup finds the one entry that holds an LBA, and tells the entry that follows it. -/

open Sys2Proof Sys2Proof.Machine

namespace Sys2Proof.Machine

/-- The lookup of an LBA within the capacity of entries that stand one after another. -/
theorem findEntry_running (es : List ViewEntry) (start v : Nat) (hrun : runningFrom start es = true) (hlow : start ≤ v)
    (hhigh : v < start + (es.map ViewEntry.length).sum) :
    ∃ pre e post, es = pre ++ e :: post ∧ findEntry v es = some (e, post.head?) ∧ e.visible ≤ v ∧
      v < e.visible + e.length ∧ runningFrom (e.visible + e.length) post = true ∧
      e.visible + e.length + (post.map ViewEntry.length).sum = start + (es.map ViewEntry.length).sum := by
  induction es generalizing start with
  | nil => simp at hhigh; omega
  | cons e es ih =>
    simp only [runningFrom, Bool.and_eq_true, decide_eq_true_eq] at hrun
    obtain ⟨hstart, hrest⟩ := hrun
    simp only [List.map_cons, List.sum_cons] at hhigh ⊢
    by_cases hin : e.visible ≤ v ∧ v < e.visible + e.length
    · exact ⟨[], e, es, rfl, if_pos hin, hin.1, hin.2, by rw [hstart]; exact hrest, by omega⟩
    · obtain ⟨pre, f, post, hes, hfind, hlow', hhigh', hrun', hsum⟩ := ih (start + e.length) hrest (by omega) (by omega)
      refine ⟨e :: pre, f, post, by rw [hes]; rfl, ?_, hlow', hhigh', hrun', by omega⟩
      rw [findEntry, if_neg hin, hfind]

/-- The first piece of a split: what lies in the entry of the first sector (R26, R27). -/
def ViewEntry.firstPiece (e : ViewEntry) (v c : Nat) : Piece :=
  ⟨e.media + (v - e.visible), min c (e.visible + e.length - v), e.range, 0⟩

/-- The second piece of a split: what reaches into the entry that follows (R26, R27). -/
def ViewEntry.secondPiece (e f : ViewEntry) (v c : Nat) : Piece :=
  ⟨f.media, c - min c (e.visible + e.length - v), f.range, min c (e.visible + e.length - v)⟩

/-- Everything the split of a capsule within the capacity can give: one piece within an entry, two pieces over an entry and the
one behind it, or none when the capsule reaches past both. -/
theorem View.split_cases {w : View} {v c : Nat} (hrun : runningFrom 0 w.entries = true) (hpos : 1 ≤ c)
    (hbound : v + c ≤ w.capacity) :
    ∃ pre e post, w.entries = pre ++ e :: post ∧ e.visible ≤ v ∧ v < e.visible + e.length ∧
      ((v + c ≤ e.visible + e.length ∧ w.split v c = some [e.firstPiece v c]) ∨
        ∃ f post', post = f :: post' ∧ f.visible = e.visible + e.length ∧ e.visible + e.length < v + c ∧
          ((v + c ≤ e.visible + e.length + f.length ∧ w.split v c = some [e.firstPiece v c, e.secondPiece f v c]) ∨
            (e.visible + e.length + f.length < v + c ∧ w.split v c = none))) := by
  obtain ⟨pre, e, post, hes, hfind, hlow, hhigh, hnext, hsum⟩ :=
    findEntry_running w.entries 0 v hrun (Nat.zero_le v) (by rw [Nat.zero_add]; exact lt_of_lt_of_le (by omega) hbound)
  refine ⟨pre, e, post, hes, hlow, hhigh, ?_⟩
  rw [View.split, hfind]
  dsimp only
  by_cases hone : v + c ≤ e.visible + e.length
  · exact .inl ⟨hone, if_pos (by omega)⟩
  · right
    rw [if_neg (by omega)]
    cases post with
    | nil =>
      have hcapacity : e.visible + e.length = w.capacity := by simpa [View.capacity] using hsum
      omega
    | cons f post' =>
      simp only [runningFrom, Bool.and_eq_true, decide_eq_true_eq] at hnext
      refine ⟨f, post', rfl, hnext.1, by omega, ?_⟩
      simp only [List.head?_cons]
      by_cases htwo : v + c ≤ e.visible + e.length + f.length
      · exact .inl ⟨htwo, if_pos (by omega)⟩
      · exact .inr ⟨by omega, if_neg (by omega)⟩

end Sys2Proof.Machine

/-- Settles O7, by the three outcomes of the split. -/
theorem splitKeepsAddresses : Obligations.SplitKeepsAddresses := by
  unfold Obligations.SplitKeepsAddresses
  intro w v c hrun hpos hbound
  obtain ⟨pre, e, post, hes, hlow, hhigh, hcases⟩ := View.split_cases hrun hpos hbound
  have hmem : e ∈ w.entries := by rw [hes]; simp
  rcases hcases with ⟨hone, hsplit⟩ | ⟨f, post', rfl, hnext, htwo, (⟨hfits, hsplit⟩ | ⟨hthree, hsplit⟩)⟩
  · refine ⟨fun ps hps => ?_, fun hnone => by rw [hsplit] at hnone; cases hnone⟩
    obtain rfl : [e.firstPiece v c] = ps := Option.some.inj (hsplit.symm.trans hps)
    refine ⟨.inl rfl, by simp only [List.map_cons, List.map_nil, List.sum_cons, List.sum_nil, ViewEntry.firstPiece]; omega,
      fun k hk => ⟨_, List.mem_singleton_self _, e, hmem, ?_⟩⟩
    simp only [ViewEntry.firstPiece, true_and]
    omega
  · refine ⟨fun ps hps => ?_, fun hnone => by rw [hsplit] at hnone; cases hnone⟩
    obtain rfl : [e.firstPiece v c, e.secondPiece f v c] = ps := Option.some.inj (hsplit.symm.trans hps)
    refine ⟨.inr rfl, by
      simp only [List.map_cons, List.map_nil, List.sum_cons, List.sum_nil, ViewEntry.firstPiece, ViewEntry.secondPiece]
      omega, fun k hk => ?_⟩
    by_cases hfirst : v + k < e.visible + e.length
    · refine ⟨e.firstPiece v c, by simp, e, hmem, ?_⟩
      simp only [ViewEntry.firstPiece, true_and]
      omega
    · refine ⟨e.secondPiece f v c, by simp, f, by rw [hes]; simp, ?_⟩
      simp only [ViewEntry.secondPiece, true_and]
      omega
  · exact ⟨fun ps hps => (by rw [hsplit] at hps; cases hps), fun _ => ⟨pre, e, f, post', hes, hlow, hhigh, hthree⟩⟩

end

section
/-! Proofs/Ciphering.lean: the Cipher Unit on sectors (R31): a block of the result depends on that block alone. -/

open Sys2Proof Sys2Proof.Machine

namespace Sys2Proof.Machine

/-- A block of an enciphered sector (R31). -/
theorem encipher_get (key : Key) (w : Tweak) (x : Sector) (j : Fin 32) :
    (encipher key w x)[j] = Config.blockCipher.perm key w j x[j] := vector_get_ofFn _ j

/-- Deciphering inverts enciphering under the same key and tweak (R31). -/
theorem decipher_encipher (key : Key) (w : Tweak) (x : Sector) : decipher key w (encipher key w x) = x :=
  vector_ext fun j => by
    rw [decipher, vector_get_ofFn, encipher_get]
    exact Equiv.symm_apply_apply ..

/-- A media LBA of 48 bits is its own tweak (R31). -/
theorem tweakOf_toNat {l : Nat} (h : l < 2 ^ 48) : (tweakOf l).toNat = l := by
  rw [tweakOf, BitVec.toNat_ofNat]
  omega

end Sys2Proof.Machine

/-- Settles O17: the three laws of the block function, carried to sectors. -/
theorem sectorsReadBackAsWritten : Obligations.SectorsReadBackAsWritten := by
  unfold Obligations.SectorsReadBackAsWritten
  refine ⟨?inverse, ?local_, ?spread⟩
  case inverse =>
    intro s u g h k l q r key x hg hq hh hr hlba
    refine ⟨encipher key (tweakOf (g.lba + k)) x, ?_, ?_⟩
    · simp only [State.writeSectorData, State.segmentKey, hg, Option.bind_some, hq, Option.map_some]
    · simp only [State.readSectorData, State.segmentKey, hh, Option.bind_some, hr, Option.map_some, ← hlba,
        decipher_encipher]
  case local_ =>
    intro key w x y j hdiff hsame
    refine ⟨fun heq => hdiff ?_, fun i hi => ?_⟩
    · rw [encipher_get, encipher_get] at heq
      exact (Config.blockCipher.perm key w j).injective heq
    · rw [encipher_get, encipher_get, hsame i hi]
  case spread =>
    intro key l m x y i j hl hm hxy hne heq
    rw [encipher_get, encipher_get, ← hxy] at heq
    obtain ⟨htweak, hblock⟩ := Config.blockCipher.spread key _ _ i j _ (by rw [tweakOf_toNat hl]; exact hl)
      (by rw [tweakOf_toNat hm]; exact hm) heq
    have hlm : l = m := by rw [← tweakOf_toNat hl, htweak, tweakOf_toNat hm]
    exact hne.elim (fun h => h hlm) (fun h => h hblock)

end

section
/-! Proofs/PolicyValues.lean: the values a policy takes (R84, R135). Each field is judged alone; a value less strict than the
one held is recognised by an order of its own, so each field has one lemma. -/

open Sys2Proof Sys2Proof.Machine

namespace Sys2Proof.Machine

/-- When a limit is less strict than the one held: 0 is the least strict, and else the greater (R135). -/
theorem limitLooser_iff (new held : Nat) : limitLooser new held = true ↔ held ≠ 0 ∧ (new = 0 ∨ held < new) := by
  unfold limitLooser
  by_cases h : held = 0 <;> simp [h]

/-- When an enclosure policy is less strict than the one held (R135). -/
theorem enclosure_looser_iff (e p : EnclosurePolicy) :
    e.strictness < p.strictness ↔ (p = .wipe ∧ e ≠ .wipe) ∨ (p = .lock ∧ e = .ignore) := by
  cases e <;> cases p <;> decide

/-- When a wipe depth is less strict than the one held (R135). -/
theorem depth_looser_iff (d p : Depth) :
    d.strictness < p.strictness ↔ (p = .mediaAndImage ∧ d ≠ .mediaAndImage) ∨ (p = .media ∧ d = .keys) := by
  cases d <;> cases p <;> decide

/-- A legal policy in the numbers of its fields (R84). -/
theorem Policy.legal_iff (p : Policy) : p.legal = true ↔ 1 ≤ p.freeTries ∧ p.freeTries ≤ 16 ∧
    (p.attemptLimit = 0 ∨ (p.freeTries < p.attemptLimit ∧ p.attemptLimit ≤ 200)) ∧ p.absenceLimit ≤ 250 ∧
    (p.binding = .none ↔ p.digest = none) := by
  simp only [Policy.legal, Bool.and_eq_true, Bool.or_eq_true, decide_eq_true_eq, beq_iff_eq]
  constructor
  · rintro ⟨⟨⟨⟨h1, h2⟩, h3⟩, h4⟩, h5⟩
    refine ⟨h1, h2, h3, h4, ?_⟩
    rw [← decide_eq_true_iff (p := p.binding = .none), h5]
    cases p.digest <;> simp
  · rintro ⟨h1, h2, h3, h4, h5⟩
    refine ⟨⟨⟨⟨h1, h2⟩, h3⟩, h4⟩, ?_⟩
    rw [Bool.eq_iff_iff, decide_eq_true_iff, h5]
    cases p.digest <;> simp

end Sys2Proof.Machine

/-- Settles O49: outside FINAL every field takes its clamped value, and in FINAL the stricter of it and the value held. -/
theorem policyOnlyTightens : Obligations.PolicyOnlyTightens := by
  unfold Obligations.PolicyOnlyTightens
  intro p q final f l a f1 l1 a1 e d hq hf1 hl1 ha1
  have htries : q.freeTries = if final = true ∧ p.freeTries < f1 then p.freeTries else f1 := by
    subst hq hf1; simp [Policy.take, clampTries]
  have hattempts : q.attemptLimit = if final = true ∧ p.attemptLimit ≠ 0 ∧ (l1 = 0 ∨ p.attemptLimit < l1)
      then p.attemptLimit else l1 := by
    subst hq hl1 hf1; simp only [Policy.take, Bool.and_eq_true, limitLooser_iff]; rfl
  have habsences : q.absenceLimit = if final = true ∧ p.absenceLimit ≠ 0 ∧ (a1 = 0 ∨ p.absenceLimit < a1)
      then p.absenceLimit else a1 := by
    subst hq ha1; simp only [Policy.take, Bool.and_eq_true, limitLooser_iff]; rfl
  have henclosure : q.enclosure = if final = true ∧ ((p.enclosure = .wipe ∧ e ≠ .wipe) ∨ (p.enclosure = .lock ∧ e = .ignore))
      then p.enclosure else e := by
    subst hq; simp only [Policy.take, Bool.and_eq_true, decide_eq_true_eq, enclosure_looser_iff]
  have hdepth : q.depth = if final = true ∧ ((p.depth = .mediaAndImage ∧ d ≠ .mediaAndImage) ∨ (p.depth = .media ∧ d = .keys))
      then p.depth else d := by
    subst hq; simp only [Policy.take, Bool.and_eq_true, decide_eq_true_eq, depth_looser_iff]
  have hkept : q.final = p.final ∧ q.binding = p.binding ∧ q.digest = p.digest := by subst hq; exact ⟨rfl, rfl, rfl⟩
  obtain ⟨hfinal, hbinding, hdigest⟩ := hkept
  have hclamp : 1 ≤ f1 ∧ f1 ≤ 16 ∧ (l1 = 0 ∨ (f1 < l1 ∧ l1 ≤ 200)) ∧ a1 ≤ 250 := by
    have : l1 = 0 ∨ (f1 < l1 ∧ l1 ≤ 200) := by
      rw [hl1]; split
      · exact .inl rfl
      · right; omega
    omega
  refine ⟨?outside, ?inFinal, ?stricter, hfinal, hbinding, hdigest, ?legal⟩
  case outside =>
    rintro rfl
    simp [htries, hattempts, habsences, henclosure, hdepth]
  case inFinal =>
    rintro rfl
    simp only [htries, hattempts, habsences, henclosure, hdepth, true_and]
  case stricter =>
    rintro rfl
    simp only [true_and] at htries hattempts habsences henclosure hdepth
    refine ⟨?_, ?_, ?_, ?_, ?_⟩
    · rw [htries]; split <;> omega
    · intro hlimit
      rw [hattempts]; split <;> omega
    · intro hlimit
      rw [habsences]; split <;> omega
    · simp only [henclosure, ← enclosure_looser_iff]; split <;> omega
    · simp only [hdepth, ← depth_looser_iff]; split <;> omega
  case legal =>
    rw [Policy.legal_iff, Policy.legal_iff, hbinding, hdigest]
    clear hq hl1
    rintro ⟨h1, h2, h3, h4, h5⟩
    refine ⟨?_, ?_, ?_, ?_, h5⟩
    · rw [htries]; split <;> omega
    · rw [htries]; split <;> omega
    · cases final <;> simp only [true_and, false_and, Bool.false_eq_true, if_false] at htries hattempts
      · omega
      · rw [htries, hattempts]; split_ifs <;> omega
    · rw [habsences]; split <;> omega

end

section
/-! Proofs/Envelopes.lean: an envelope that fails its test (R59, R60, R121). -/

open Sys2Proof Sys2Proof.Machine

namespace Sys2Proof.Machine

theorem ite_eq_some {p : Prop} [Decidable p] {α : Type} {x y : Option α} {r : α} (h : (if p then x else y) = some r) :
    (p ∧ x = some r) ∨ (¬ p ∧ y = some r) := by
  by_cases hp : p
  · exact .inl ⟨hp, (if_pos hp).symm.trans h⟩
  · exact .inr ⟨hp, (if_neg hp).symm.trans h⟩

/-- A request that the decoder reads only from fields long enough for it (R60). -/
theorem leastLength_of_fields {p : Prop} [Decidable p] {x r : Request} {code : Nat} {f : List Byte}
    (h : (if p then some x else none) = some r) (hcode : x.code = code) (hp : p → minimumFieldLength code f ≤ f.length) :
    r.code = code ∧ minimumFieldLength code f ≤ f.length := by
  obtain ⟨hlong, h⟩ := Option.ite_none_right_eq_some.mp h
  obtain rfl := Option.some.inj h
  exact ⟨hcode, hp hlong⟩

/-- What the decoder reads from a code and fields is a request of that code whose least field length the fields reach (R60). -/
theorem requestOf_some {code : Nat} {f : List Byte} {r : Request} (h : requestOf code f = some r) :
    r.code = code ∧ minimumFieldLength code f ≤ f.length := by
  -- The branches of the decoder in the order of the codes, those without fields and those with fields in turn.
  unfold requestOf at h
  iterate 5 (rcases ite_eq_some h with ⟨rfl, h⟩ | ⟨-, h⟩; · cases h; exact ⟨rfl, Nat.zero_le _⟩)
  iterate 7 (rcases ite_eq_some h with ⟨rfl, h⟩ | ⟨-, h⟩; · exact leastLength_of_fields h rfl (by simp [minimumFieldLength]))
  iterate 1 (rcases ite_eq_some h with ⟨rfl, h⟩ | ⟨-, h⟩; · cases h; exact ⟨rfl, Nat.zero_le _⟩)
  iterate 2 (rcases ite_eq_some h with ⟨rfl, h⟩ | ⟨-, h⟩; · exact leastLength_of_fields h rfl (by simp [minimumFieldLength]))
  iterate 1 (rcases ite_eq_some h with ⟨rfl, h⟩ | ⟨-, h⟩; · cases h; exact ⟨rfl, Nat.zero_le _⟩)
  iterate 2 (rcases ite_eq_some h with ⟨rfl, h⟩ | ⟨-, h⟩; · exact leastLength_of_fields h rfl (by simp [minimumFieldLength]))
  iterate 1 (rcases ite_eq_some h with ⟨rfl, h⟩ | ⟨-, h⟩; · cases h; exact ⟨rfl, Nat.zero_le _⟩)
  iterate 1 (rcases ite_eq_some h with ⟨rfl, h⟩ | ⟨-, h⟩; · exact leastLength_of_fields h rfl (by simp [minimumFieldLength]))
  rcases ite_eq_some h with ⟨rfl, h⟩ | ⟨-, h⟩
  · cases h; exact ⟨rfl, Nat.zero_le _⟩
  · cases h

/-- A slot byte 8..254 names neither a slot nor its absence (R59). -/
theorem blockSlot_undefined {b : Byte} (hlow : 8 ≤ b.toNat) (hhigh : b.toNat ≤ 254) : blockSlot b = none := by
  unfold blockSlot
  rw [dif_neg (by omega), if_neg]
  rintro rfl
  exact absurd hhigh (by decide)

/-- The tests of R59, each of which refuses an envelope. -/
theorem readEnvelope_none {bytes : List Byte}
    (h : bytes.length < 40 ∨ 1024 < bytes.length ∨ bytes.length ≠ 40 + fieldAt bytes 2 2 ∨
      (8 ≤ (byteAt bytes 4).toNat ∧ (byteAt bytes 4).toNat ≤ 254) ∨
      (∀ r : Request, envelopeCode bytes ≠ r.code) ∨
      fieldAt bytes 2 2 < minimumFieldLength (fieldAt bytes 0 2) (bytes.drop 40)) :
    readEnvelope bytes.length (keptEnvelope bytes) = none := by
  unfold readEnvelope
  by_cases hsize : bytes.length < 40 ∨ 1024 < bytes.length
  · exact if_pos hsize
  rw [if_neg hsize, show keptEnvelope bytes = bytes from List.take_of_length_le (by omega)]
  by_cases hlength : bytes.length ≠ 40 + fieldAt bytes 2 2
  · exact if_pos hlength
  rw [if_neg hlength]
  split
  · rename_i slot request hslot hrequest
    obtain ⟨hcode, hleast⟩ := requestOf_some hrequest
    have henough : ¬ fieldAt bytes 2 2 < minimumFieldLength (fieldAt bytes 0 2) (bytes.drop 40) := by
      rw [envelopeCode, if_neg (by omega), List.length_drop] at hleast
      omega
    have hblock : ¬ (8 ≤ (byteAt bytes 4).toNat ∧ (byteAt bytes 4).toNat ≤ 254) := fun hb => by
      rw [blockSlot_undefined hb.1 hb.2] at hslot
      cases hslot
    rcases h with h | h | h | h | h | h
    · exact absurd (.inl h) hsize
    · exact absurd (.inr h) hsize
    · exact absurd h hlength
    · exact absurd h hblock
    · exact absurd hcode.symm (h request)
    · exact absurd h henough
  · rfl

end Sys2Proof.Machine

/-- Settles O13: whichever test fails, the request is answered as it enters service. -/
theorem badEnvelopeAnsweredInvalid : Obligations.BadEnvelopeAnsweredInvalid := by
  unfold Obligations.BadEnvelopeAnsweredInvalid
  intro s tag t bytes hcalm hfree hawake hbad
  refine congrArg Host.Outcome.next ?_
  rw [State.offer_control hcalm hfree hawake, State.enterService]
  simp only [readEnvelope_none hbad]
  have hanswer : (s.setEntry t Entry.ofControl).handOut t .invalid (envelopeCode (keptEnvelope bytes)) .noFields =
      s.answered t .invalid (envelopeCode (keptEnvelope bytes)) .noFields := by
    have hentry : (s.table.set t Entry.ofControl).set t Entry.free = s.table.set t Entry.free := Vector.set_set ..
    simp only [State.handOut, State.freeEntry, State.setEntry, State.sendUp, State.answered, hentry]
  rw [hanswer]
  exact State.settle_calm (s := s.answered t .invalid (envelopeCode (keptEnvelope bytes)) .noFields) hcalm

end

section
/-! Proofs/Backoff.lean: the back-off timer (R103) and the part after reset (R78). -/

open Sys2Proof Sys2Proof.Machine

namespace Sys2Proof.Machine

/-- An event of a calm part that leaves it calm has its effect and no follow-up. -/
theorem State.event_calm {s : State} (h : s.Calm) {f : State → State} (hf : (f s).Calm) : s.event f = f s := by
  rw [State.event_of_owes (State.owesAnswer_of_service h.service) (by rw [h.power]; decide), State.settle_calm hf]

/-- A step of an empty queue counts a second down (R103), where no response has yet to be handed out. -/
theorem step_idle {s : State} (hpending : s.pending = []) (howes : s.owesAnswer = false) :
    step s = .next s.countsDown := by
  unfold step
  rw [hpending]
  exact congrArg (fun u : State => Host.Outcome.next u.countsDown) (State.handedOut_of_owes howes)

end Sys2Proof.Machine

/-- Settles O57. -/
theorem backoffRunsOut : Obligations.BackoffRunsOut := by
  unfold Obligations.BackoffRunsOut
  intro s
  refine ⟨fun hcalm => ⟨fun hruns => ?expires, fun hstopped => ?stopped⟩, fun hpending howes => ?second⟩
  case expires =>
    have hsome : s.backoff.isSome = true := Option.isSome_iff_ne_none.mpr hruns
    have heffect : (if s.backoff.isSome then s.backoffExpires else s) = s.backoffExpires := if_pos hsome
    exact congrArg Host.Outcome.next
      ((State.event_calm hcalm (f := fun u => if u.backoff.isSome then u.backoffExpires else u)
        (by rw [heffect]; exact hcalm)).trans heffect)
  case stopped =>
    have heffect : (if s.backoff.isSome then s.backoffExpires else s) = s := if_neg (by simp [hstopped])
    exact congrArg Host.Outcome.next
      ((State.event_calm hcalm (f := fun u => if u.backoff.isSome then u.backoffExpires else u)
        (by rw [heffect]; exact hcalm)).trans heffect)
  case second =>
    rw [step_idle hpending howes]
    refine ⟨fun n hpower hbackoff => ?_, fun hpower hbackoff => ?_, fun hidle => ?_⟩
    · simp [State.countsDown, hpower, hbackoff]
    · simp [State.countsDown, hpower, hbackoff, State.backoffExpires, State.notify, NoticeSet.add]
    · rcases hidle with h | h <;> simp [State.countsDown, h]

/-- Settles O60: the records are those of `Store.manufactured`, and without power the laws hold of an empty part. -/
theorem resetIsAsManufactured : Obligations.ResetIsAsManufactured := by
  unfold Obligations.ResetIsAsManufactured
  have hslots : State.reset.NoKeys := fun r => by simp [State.reset, State.unpowered, KeySlot.empty]
  refine ⟨rfl, rfl, rfl, rfl, rfl, rfl, fun i hi => ?credentials, ⟨manufacturedDeviceWrap, rfl, rfl, rfl⟩, List.Pairwise.nil,
    Nat.zero_le 4, ⟨rfl, nofun, nofun⟩, ⟨List.nodup_nil, fun _ => rfl⟩, .inl rfl, ?keys⟩
  case credentials =>
    show ((Vector.replicate 8 (Stored.intact Credential.empty)).set 0 _)[i] = _
    rw [Fin.getElem_fin, Vector.getElem_set_ne _ _ (by intro h; exact hi (Fin.ext h.symm))]
    simp
  case keys =>
    refine ⟨⟨⟨nofun, nofun⟩, nofun, nofun⟩, fun _ => ?_, nofun, fun _ => hslots⟩
    exact ⟨rfl, rfl, rfl, rfl, rfl, hslots, nofun, rfl, nofun, by rintro (⟨n, h⟩ | h) <;> cases h⟩

end

section
/-! Proofs/Sectors.lean: data sectors and downstream completions on their way through a calm part (sections 2.2, 2.3, 3.1, 3.3 to
3.5). Each event of the ports is one operation with no follow-up; a segment that finishes is written into its entry first, and the
entry is then looked at. -/

open Sys2Proof Sys2Proof.Machine

namespace Sys2Proof.Machine

theorem outcome_next_congr {s t : State} (h : s = t) :
    (Host.Outcome.next s : Host.Outcome State Fault Refusal) = .next t := congrArg Host.Outcome.next h

/-- An event of a calm part whose effect is known and leaves the part calm. -/
theorem State.event_calm_eq {s u : State} (h : s.Calm) {f : State → State} (hf : f s = u) (hu : u.Calm) : s.event f = u :=
  (State.event_calm h (by rw [hf]; exact hu)).trans hf

/-- A write sector offered to a calm part, whose effect is known and leaves the part calm. -/
theorem State.offerSector_eq {s u : State} (h : s.Calm) {d : DataSector} (hd : s.takeSector d = u) (hu : u.Calm) :
    s.offerSector d = u := by
  rw [State.offerSector_calm h, hd, State.settle_calm hu]

/-! ## Write sectors (R32, R43) -/

/-- A write sector of a FORWARDED WRITE, below its count and for an unfinished segment, is received unless it was before. -/
theorem State.takeSector_forwarded {s : State} {d : DataSector} {t : Tag} {g : Segment} (ht : d.tag.toNat = t.val)
    (hstate : s.table[t].state = .forwarded) (hkind : s.table[t].kind = some .write) (hcount : d.offset < s.table[t].count)
    (hg : s.table[t].segmentAt d.offset = some g) :
    s.takeSector d = if g.status.isSome then s
      else if d.offset - g.offset ∈ g.received then s.notify .protocolError
      else s.receiveSector t g (d.offset - g.offset) d.data := by
  unfold State.takeSector
  simp only [tagOf_eq ht, hstate, hkind, hcount, and_self, if_true, hg]

/-- A write sector that an entry does not take: of the wrong state, of another kind, or at or above its count. -/
theorem State.takeSector_refused {s : State} {d : DataSector} {t : Tag} (ht : d.tag.toNat = t.val)
    (h : s.table[t].state = .free ∨ s.table[t].state = .control ∨
      (s.table[t].state = .forwarded ∧ ¬ (s.table[t].kind = some .write ∧ d.offset < s.table[t].count))) :
    s.takeSector d = s.noticed NoticeSet.withProtocolError := by
  unfold State.takeSector
  rw [tagOf_eq ht]
  rcases h with h | h | ⟨h, hno⟩ <;> simp only [h]
  · rfl
  · rfl
  · exact if_neg hno

/-- A write sector for a struck entry is dropped (R43). -/
theorem State.takeSector_struck {s : State} {d : DataSector} {t : Tag} (ht : d.tag.toNat = t.val)
    (h : s.table[t].state = .aborting ∨ s.table[t].state = .orphaned) : s.takeSector d = s := by
  unfold State.takeSector
  rw [tagOf_eq ht]
  rcases h with h | h <;> simp only [h]

/-- A tag byte above 31 names no entry (R45). -/
theorem tagOf_none {b : Byte} (h : 32 ≤ b.toNat) : tagOf b = none := dif_neg (by omega)

/-- A received write sector is marked and held as the Cipher Unit gives it (R32). -/
theorem State.receiveSector_eq {s : State} {g : Segment} {k : Nat} {x y : Sector} (t : Tag)
    (hy : s.writeSectorData g k x = some y) : s.receiveSector t g k x =
      { s.withSegment t g.subTag (Segment.receive k) with writeHeld := s.writeHeld ++ [⟨g.subTag, k, y⟩] } := by
  unfold State.receiveSector
  rw [hy]
  rfl

/-! ## Read sectors (R33, R51) -/

/-- The tag of a sub-tag of the Wipe Engine: none (R49). -/
theorem tagOfSubTag_none {n : Nat} (h : 64 ≤ n) : tagOfSubTag n = none := dif_neg (by omega)

/-- A read sector on an outstanding sub-tag of the Admission Unit goes by its entry. -/
theorem State.takeReadSector_route {s : State} {n : Nat} {t : Tag} (ho : n ∈ s.outstanding) (ht : n / 2 = t.val) (k : Nat)
    (x : Sector) : s.takeReadSector n k x = s.routeReadSector t n k x := by
  unfold State.takeReadSector
  rw [if_pos ho, tagOfSubTag_eq ht]

/-- A read sector delivered is counted and held as the Cipher Unit gives it (R33). -/
theorem State.deliverSector_eq {s : State} {g : Segment} {k : Nat} {x y : Sector} (t : Tag)
    (hy : s.readSectorData g k x = some y) : s.deliverSector t g k x =
      { s.withSegment t g.subTag Segment.deliver with readHeld := s.readHeld ++ [⟨g.subTag, k, y⟩] } := by
  unfold State.deliverSector
  rw [hy]
  rfl

/-! ## Segments that finish (R37, R38, R63) -/

theorem State.releaseSegment_slots (s : State) (g : Segment) : s.releaseSegment g = { s with slots := s.slotsReleased g } := by
  unfold State.releaseSegment State.slotsReleased
  cases g.slot <;> rfl

/-- A segment of a FORWARDED entry finishes: written into the entry, its slot released, its held write sectors dropped; then the
entry is looked at. -/
theorem State.finishSegment_forwarded {s : State} {t : Tag} (h : s.table[t].state = .forwarded) (g : Segment) :
    s.finishSegment t g = ({ s with
      table := s.table.set t (s.table[t].updateSegment g.subTag Segment.finished)
      slots := s.slotsReleased g
      writeHeld := dropHeld g.subTag s.writeHeld } : State).closeEntry t := by
  unfold State.finishSegment
  dsimp only
  rw [if_pos h, State.releaseSegment_slots]
  rfl

/-- A segment of a struck entry finishes without a release. -/
theorem State.finishSegment_struck {s : State} {t : Tag} (h : s.table[t].state ≠ .forwarded) (g : Segment) :
    s.finishSegment t g = ({ s with
      table := s.table.set t (s.table[t].updateSegment g.subTag Segment.finished)
      writeHeld := dropHeld g.subTag s.writeHeld } : State).closeEntry t := by
  unfold State.finishSegment
  dsimp only
  rw [if_neg h]
  rfl

/-- An entry that owes another segment stays as it is. -/
theorem State.closeEntry_open {s : State} {t : Tag} (h : s.table[t].allFinished = false) : s.closeEntry t = s :=
  if_neg (by rw [h]; decide)

/-- An entry with an unfinished segment of another sub-tag owes it. -/
theorem Entry.withFinished_owes {e : Entry} {n : Nat} (st : Status) (x : Sector)
    (h : ∃ u ∈ e.segments, u.subTag ≠ n ∧ u.status = none) : (e.withFinished n st x).allFinished = false := by
  obtain ⟨u, hu, hne, hnone⟩ := h
  rw [← Bool.not_eq_true, Entry.allFinished, List.all_eq_true]
  intro hall
  have := hall u (List.mem_map.mpr ⟨u, hu, if_neg hne⟩)
  simp [hnone] at this

/-- A downstream completion for a segment of a struck entry, or of a FORWARDED one with no sector left to pass, is written into the
entry, which is then looked at. -/
theorem State.segmentCompletion_struck {s : State} {n : Nat} {t : Tag} {g : Segment} {st : Status} {x : Sector}
    (hg : s.table[t].segment? n = some g) (hs : s.table[t].state ≠ .forwarded) :
    s.segmentCompletion t g st x =
      ({ s with
        table := s.table.set t (s.table[t].withFinished n st x)
        writeHeld := s.writeHeld.filter fun h => decide (h.subTag ≠ n) } : State).closeEntry t := by
  have hn := Entry.segment?_subTag hg
  have hkept : (s.setEntry t ((s.table[t].updateSegment g.subTag (Segment.arrive st)).keepIdentity x)).table[t] =
      (s.table[t].updateSegment n (Segment.arrive st)).keepIdentity x := by
    rw [hn]; exact vector_set_get ..
  have hstate : ((s.table[t].updateSegment n (Segment.arrive st)).keepIdentity x).state ≠ .forwarded := by
    unfold Entry.keepIdentity
    split <;> exact hs
  unfold State.segmentCompletion
  dsimp only
  rw [if_neg (fun h => hs h.1), State.finishSegment_struck (by rw [hkept]; exact hstate), hkept]
  simp only [Segment.arrive, hn, Entry.withFinished_eq, State.setEntry, Vector.set_set, dropHeld]

/-- A downstream completion on an outstanding sub-tag goes to its segment, the sub-tag no longer outstanding (R49, R50). -/
theorem State.takeCompletion_segment {s : State} {subTag code : Byte} {t : Tag} {g : Segment} (x : Sector)
    (ho : subTag.toNat ∈ s.outstanding) (ht : subTag.toNat / 2 = t.val) (hg : s.table[t].segment? subTag.toNat = some g) :
    s.takeCompletion subTag.toNat code x =
      ({ s with outstanding := removeNat subTag.toNat s.outstanding } : State).segmentCompletion t g (backEndStatus code) x := by
  unfold State.takeCompletion State.routeCompletion
  rw [if_pos ho, tagOfSubTag_eq ht]
  simp only [hg]

/-- The merged status reads nothing of the segments but their status (R38). -/
theorem mergedStatus_congr {gs : List Segment} {f f' : Segment → Segment} (h : ∀ g ∈ gs, (f g).status = (f' g).status) :
    mergedStatus (gs.map f) = mergedStatus (gs.map f') := by
  unfold mergedStatus
  rw [List.filterMap_map, List.filterMap_map,
    List.filterMap_congr (f := Segment.status ∘ f) (g := Segment.status ∘ f') fun g hg => h g hg]

/-! ## Read sectors that pass upstream (R33, R37) -/

theorem heldAt_offset {n k : Nat} {hs : List HeldSector} {h : HeldSector} (hh : heldAt n k hs = some h) : h.offset = k := by
  have := List.find?_some hh
  simp only [Bool.and_eq_true, decide_eq_true_eq] at this
  exact this.2

/-- The command of a held read sector that passes upstream. -/
theorem State.readSectorPasses_eq {s : State} {n k : Nat} {t : Tag} {g : Segment} {h : HeldSector}
    (hh : heldAt n k s.readHeld = some h) (ht : n / 2 = t.val) (hg : s.table[t].segment? n = some g) :
    s.readSectorPasses n k = s.passSector t g h := by
  unfold State.readSectorPasses
  simp only [hh, tagOfSubTag_eq ht, hg]

/-- A sector of an entry is sent and counted as passed (R33). -/
def State.sectorPassed (s : State) (t : Tag) (g : Segment) (h : HeldSector) : State :=
  { s.withSegment t g.subTag Segment.pass with
    readHeld := s.readHeld.erase h
    outbound := s.outbound ++ [.readData t.val (g.offset + h.offset) h.data] }

theorem State.passSector_eq (s : State) (t : Tag) (g : Segment) (h : HeldSector) :
    s.passSector t g h = if g.arrived.isSome ∧ g.unpassed ≤ 1 then (s.sectorPassed t g h).finishSegment t g.pass
      else s.sectorPassed t g h := rfl

/-- What the last sector of a segment leaves of its entry, the segment's completion having arrived (R37). -/
theorem Entry.passed_finished {e : Entry} {n : Nat} {g : Segment} {st : Status} (harrived : g.arrived = some st)
    (hone : g.unpassed = 1) (hall : ∀ u ∈ e.segments, u.subTag = n → u = g) :
    (e.updateSegment n Segment.pass).updateSegment n Segment.finished =
      e.updateSegment n fun u => { u with unpassed := 0, status := some st } := by
  unfold Entry.updateSegment
  simp only [List.map_map]
  congr 1
  refine List.map_congr_left fun u hu => ?_
  simp only [Function.comp]
  by_cases hn : u.subTag = n
  · obtain rfl := hall u hu hn
    simp [hn, Segment.pass, Segment.finished, harrived, hone]
  · simp [hn]

/-- The last sector of a segment whose completion has arrived passes: the segment is finished and its entry looked at (R37). -/
theorem State.passSector_last {s : State} {n : Nat} {t : Tag} {g : Segment} {st : Status} (h : HeldSector)
    (hstate : s.table[t].state = .forwarded) (hg : s.table[t].segment? n = some g) (harrived : g.arrived = some st)
    (hone : g.unpassed = 1) (hall : ∀ u ∈ s.table[t].segments, u.subTag = n → u = g) :
    s.passSector t g h = ({ s.withSegment t n (fun u => { u with unpassed := 0, status := some st }) with
      slots := s.slotsReleased g
      readHeld := s.readHeld.erase h
      writeHeld := s.writeHeld.filter fun w => decide (w.subTag ≠ n)
      outbound := s.outbound ++ [.readData t.val (g.offset + h.offset) h.data] } : State).closeEntry t := by
  have hn := Entry.segment?_subTag hg
  have hentry : (s.sectorPassed t g h).table[t] = s.table[t].updateSegment n Segment.pass := by
    rw [← hn]; exact vector_set_get ..
  rw [State.passSector_eq, if_pos ⟨by rw [harrived]; rfl, by omega⟩,
    State.finishSegment_forwarded (by rw [hentry]; exact hstate), hentry]
  have hsub : g.pass.subTag = n := hn
  rw [hsub, Entry.passed_finished harrived hone hall]
  simp only [State.sectorPassed, State.withSegment, Vector.set_set]
  rfl

end Sys2Proof.Machine

/-- Settles O14. -/
theorem writeSectorEnciphered : Obligations.WriteSectorEnciphered := by
  unfold Obligations.WriteSectorEnciphered
  intro s tag t offset data g hcalm htag hstate hkind hcount hg hopen hnew
  have htaken : s.takeSector ⟨tag, offset, data⟩ = s.receiveSector t g (offset - g.offset) data := by
    rw [State.takeSector_forwarded htag hstate hkind hcount hg, if_neg (by simp [hopen]), if_neg hnew]
  refine ⟨fun r key hslot hkey => outcome_next_congr ?_, fun hslot => outcome_next_congr ?_⟩
  · refine State.offerSector_eq hcalm (htaken.trans (State.receiveSector_eq t ?_)) hcalm
    simp only [State.writeSectorData, State.segmentKey, hslot, Option.bind_some, hkey, Option.map_some]
  · refine State.offerSector_eq hcalm (htaken.trans (State.receiveSector_eq t ?_)) hcalm
    simp only [State.writeSectorData, hslot]

/-- Settles O15. -/
theorem sectorsAndCompletionsDiscarded : Obligations.SectorsAndCompletionsDiscarded := by
  unfold Obligations.SectorsAndCompletionsDiscarded
  refine ⟨fun s tag offset data hcalm => ⟨?writeSilent, ?writeNotice⟩, fun s subTag offset data hcalm => ⟨?readSilent, ?readNotice⟩,
    ?completion⟩
  case writeSilent =>
    intro t htag h
    refine outcome_next_congr (State.offerSector_eq hcalm ?_ hcalm)
    rcases h with h | h | ⟨hstate, hkind, hcount, g, hg, hfinished⟩
    · exact State.takeSector_struck htag (.inl h)
    · exact State.takeSector_struck htag (.inr h)
    · rw [State.takeSector_forwarded htag hstate hkind hcount hg, if_pos hfinished]
  case writeNotice =>
    intro h
    refine outcome_next_congr (State.offerSector_eq hcalm ?_ (hcalm.noticed _))
    rcases h with h | ⟨t, htag, h | h | ⟨hstate, h⟩⟩
    · unfold State.takeSector
      rw [tagOf_none h]
      rfl
    · exact State.takeSector_refused htag (.inl h)
    · exact State.takeSector_refused htag (.inr (.inl h))
    · by_cases hin : s.table[t].kind = some .write ∧ offset < s.table[t].count
      · rcases h with h | h | ⟨g, hg, hopen, hreceived⟩
        · exact absurd hin.1 h
        · exact absurd hin.2 (Nat.not_lt.mpr h)
        · rw [State.takeSector_forwarded htag hstate hin.1 hin.2 hg, if_neg (by simp [hopen]), if_pos hreceived]
          rfl
      · exact State.takeSector_refused htag (.inr (.inr ⟨hstate, hin⟩))
  case readSilent =>
    intro t ho ht h
    refine outcome_next_congr (State.event_calm_eq hcalm ?_ hcalm)
    rw [State.takeReadSector_route ho ht, State.routeReadSector]
    rcases h with h | h <;> simp only [h]
  case readNotice =>
    intro h
    refine outcome_next_congr (State.event_calm_eq hcalm ?_ (hcalm.noticed _))
    by_cases ho : subTag.toNat ∈ s.outstanding
    · rcases h with h | h | ⟨t, ht, hstate, h⟩
      · exact absurd ho h
      · rw [State.takeReadSector, if_pos ho, tagOfSubTag_none h]
        rfl
      · rw [State.takeReadSector_route ho ht, State.routeReadSector]
        simp only [hstate]
        split
        · rename_i g hg
          refine if_neg fun hin => ?_
          rcases h with h | h
          · exact h hin.1
          · exact absurd hin.2 (Nat.not_lt.mpr (h g hg))
        · rfl
    · exact if_neg ho
  case completion =>
    intro s subTag code x hcalm ho
    exact outcome_next_congr (State.event_calm_eq hcalm (if_neg ho) (hcalm.noticed _))

/-- Settles O16. -/
theorem readSectorDeciphered : Obligations.ReadSectorDeciphered := by
  unfold Obligations.ReadSectorDeciphered
  intro s subTag t offset data g hcalm ho ht hstate hkind hg hcount
  have htaken : s.takeReadSector subTag.toNat offset data = s.deliverSector t g offset data := by
    rw [State.takeReadSector_route ho ht, State.routeReadSector]
    simp only [hstate, hg, hkind, hcount, and_self, if_true]
  refine ⟨fun r key hslot hkey => outcome_next_congr ?_, fun hslot => outcome_next_congr ?_⟩
  · refine State.event_calm_eq hcalm (htaken.trans (State.deliverSector_eq t ?_)) hcalm
    simp only [State.readSectorData, State.segmentKey, hslot, Option.bind_some, hkey, Option.map_some]
  · refine State.event_calm_eq hcalm (htaken.trans (State.deliverSector_eq t ?_)) hcalm
    simp only [State.readSectorData, hslot]

/-- Settles O18: a sector that is not its segment's last is only counted; the last one finishes the segment, and the entry with it
unless it owes another. -/
theorem readSectorPasses : Obligations.ReadSectorPasses := by
  unfold Obligations.ReadSectorPasses
  refine ⟨?counted, ?ends, ?waits⟩
  case counted =>
    intro s subTag t offset g h hcalm hh ht hg hmore
    refine outcome_next_congr (State.event_calm_eq hcalm ((State.readSectorPasses_eq hh ht hg).trans ?_) hcalm)
    rw [State.passSector_eq, if_neg, ← heldAt_offset hh]
    · rfl
    · rintro ⟨harrived, hlast⟩
      rcases hmore with hnone | hmore
      · rw [hnone] at harrived
        cases harrived
      · omega
  case ends =>
    intro s subTag t offset g h st hcalm hh ht hstate hkind hg harrived hone hall
    have hsame : ∀ u ∈ s.table[t].segments, u.subTag = subTag.toNat → u = g := fun u hu hn => by
      simpa [hn] using hall u hu
    refine outcome_next_congr (State.event_calm_eq hcalm ((State.readSectorPasses_eq hh ht hg).trans
      ((State.passSector_last h hstate hg harrived hone hsame).trans ?_)) hcalm)
    have hfinished : (s.table[t].updateSegment subTag.toNat fun u =>
        { u with unpassed := 0, status := some st }).allFinished = true := by
      simp only [Entry.allFinished, Entry.updateSegment, List.all_map, List.all_eq_true, Function.comp]
      intro u hu
      by_cases hn : u.subTag = subTag.toNat
      · simp [hn]
      · simpa [hn] using hall u hu
    have hmerged : mergedStatus (s.table[t].segments.map fun u =>
        if u.subTag = subTag.toNat then { u with unpassed := 0, status := some st } else u) =
        mergedStatus (s.table[t].segments.map fun u => if u.subTag = subTag.toNat then { u with status := some st } else u) :=
      mergedStatus_congr fun u _ => by by_cases hn : u.subTag = subTag.toNat <;> simp [hn]
    unfold State.closeEntry
    simp only [State.withSegment, vector_set_get, hfinished, if_true]
    simp only [hstate, State.completeEntry, State.freeEntry, State.setEntry, State.sendUp, vector_set_get, Vector.set_set,
      Entry.completion, Entry.updateSegment, hmerged, hkind, heldAt_offset hh, List.append_assoc]
    rfl
  case waits =>
    intro s subTag t offset g h st hcalm hh ht hstate hkind hg harrived hone hsame howes
    refine outcome_next_congr (State.event_calm_eq hcalm ((State.readSectorPasses_eq hh ht hg).trans
      ((State.passSector_last h hstate hg harrived hone hsame).trans ?_)) hcalm)
    rw [State.closeEntry_open, ← heldAt_offset hh]
    obtain ⟨u, hu, hne, hnone⟩ := howes
    simp only [State.withSegment, vector_set_get, ← Bool.not_eq_true, Entry.allFinished, List.all_eq_true]
    intro hall
    have := hall u (List.mem_map.mpr ⟨u, hu, if_neg hne⟩)
    simp [hnone] at this

/-- Settles O19. -/
theorem writeDataGoesDown : Obligations.WriteDataGoesDown := by
  unfold Obligations.WriteDataGoesDown
  refine ⟨?held, fun s subTag t offset g hcalm ht hg => ⟨?owed, ?notOwed⟩⟩
  case held =>
    intro s subTag t h hcalm hh ht
    refine outcome_next_congr (State.event_calm_eq hcalm ?_ hcalm)
    unfold State.writeSectorGoes
    simp only [hh, tagOfSubTag_eq ht]
    rfl
  case owed =>
    intro hstate hkind hopen hcount hnew
    have howes : s.table[t].owesZero g offset = true := by
      unfold Entry.owesZero
      rcases hstate with h | h <;> simp [-Fin.getElem_fin, h, hkind, hopen, hcount, hnew]
    refine outcome_next_congr (State.event_calm_eq hcalm ?_ hcalm)
    unfold State.zeroSectorGoes
    simp only [tagOfSubTag_eq ht, hg, howes, if_true]
    rfl
  case notOwed =>
    intro h
    have howes : s.table[t].owesZero g offset = false := by
      unfold Entry.owesZero
      rcases h with h | h | ⟨h, h'⟩
      · simp [h]
      · simp [Nat.not_lt.mpr h]
      · simp [-Fin.getElem_fin, h, h']
    refine outcome_next_congr (State.event_calm_eq hcalm ?_ hcalm)
    unfold State.zeroSectorGoes
    simp only [tagOfSubTag_eq ht, hg, howes]
    rfl

/-- Settles O20. -/
theorem completionFinishesItsSegment : Obligations.CompletionFinishesItsSegment := by
  unfold Obligations.CompletionFinishesItsSegment
  refine ⟨⟨fun s subTag code x t g st hcalm => ⟨?ends, ?waits⟩, ?merged, ?completion⟩, ?unpassed⟩
  case ends =>
    intro h
    exact (exec_completion_ends hcalm.power (State.owesAnswer_of_service hcalm.service) h).trans
      (outcome_next_congr (State.settle_calm (s := s.entryEnded subTag t g st x) hcalm))
  case waits =>
    intro ho ht hstate hg hpassed hcode howes
    refine outcome_next_congr (State.event_calm_eq hcalm ?_ hcalm)
    rw [State.takeCompletion_segment x ho ht hg, backEndStatus_eq hcode,
      State.segmentCompletion_eq (s := { s with outstanding := removeNat subTag.toNat s.outstanding }) hg hstate hpassed,
      State.closeEntry_open]
    · rfl
    · rw [vector_set_get]
      exact Entry.withFinished_owes st x howes
  case merged =>
    intro a b x y ha hb
    by_cases hx : x = .good <;> by_cases hy : y = .good <;> simp [mergedStatus, ha, hb, hx, hy]
  case completion =>
    intro e t st k hk
    simp [Entry.completion, hk]
  case unpassed =>
    intro s subTag code x t g hcalm ho ht hstate hkind hg hmore
    refine outcome_next_congr (State.event_calm_eq hcalm ?_ hcalm)
    have hkept : ∀ f, (s.table[t].updateSegment g.subTag f).keepIdentity x = s.table[t].updateSegment subTag.toNat f := fun f => by
      rw [Entry.segment?_subTag hg]
      refine if_neg ?_
      rw [show (s.table[t].updateSegment subTag.toNat f).kind = some .read from hkind]
      decide
    rw [State.takeCompletion_segment x ho ht hg, State.segmentCompletion]
    simp only [hstate, hmore, and_self, if_true, hkept]
    rfl

/-- Settles O21: a struck entry looks at its segments as a FORWARDED one does, but releases no slot. -/
theorem struckEntriesEnd : Obligations.StruckEntriesEnd := by
  unfold Obligations.StruckEntriesEnd
  intro s subTag code x t g hcalm ho ht hg
  have hcompletion : s.table[t].state ≠ .forwarded → s.takeCompletion subTag.toNat code x =
      ({ s.subTagFreed subTag.toNat with
        table := s.table.set t (s.table[t].withFinished subTag.toNat (backEndStatus code) x) } : State).closeEntry t := fun hs =>
    (State.takeCompletion_segment x ho ht hg).trans
      (State.segmentCompletion_struck (s := { s with outstanding := removeNat subTag.toNat s.outstanding }) hg hs)
  refine ⟨fun hall => ⟨fun hstate => ?aborting, fun hstate => ?orphaned⟩, fun howes hstate => ?owes⟩
  case aborting =>
    refine outcome_next_congr (State.event_calm_eq hcalm ((hcompletion (by rw [hstate]; decide)).trans ?_) hcalm)
    have haborting : (s.table[t].withFinished subTag.toNat (backEndStatus code) x).state = .aborting := hstate
    unfold State.closeEntry
    simp only [vector_set_get, Entry.withFinished_all hall, if_true, haborting, State.completeEntry, State.freeEntry,
      State.setEntry, State.sendUp, Vector.set_set]
    rfl
  case orphaned =>
    refine outcome_next_congr (State.event_calm_eq hcalm ((hcompletion (by rw [hstate]; decide)).trans ?_) hcalm)
    have horphaned : (s.table[t].withFinished subTag.toNat (backEndStatus code) x).state = .orphaned := hstate
    unfold State.closeEntry
    simp only [vector_set_get, Entry.withFinished_all hall, if_true, horphaned, State.freeEntry, State.setEntry, Vector.set_set]
  case owes =>
    refine outcome_next_congr (State.event_calm_eq hcalm ((hcompletion (by rcases hstate with h | h <;> rw [h] <;> decide)).trans
      (State.closeEntry_open ?_)) hcalm)
    show (s.table.set t _)[t].allFinished = false
    rw [vector_set_get]
    exact Entry.withFinished_owes _ x howes

end

section
/-! Proofs/KeyLaw.lean: outside a session no slot holds a key, after every step (R62, R68, R105, R124, R141, R160, R166, R171).

A state of the powered part is lawful in one of two ways: no wipe is in progress (`State.Idle`), or it is barred from holding keys
(`State.Safe`: no key, WIPING or FAULT, no session end pending, and in service only what a wipe has struck or the WIPE that resumes
it). Before the last step of the power-up sequence a third law holds (`State.Starting`). Operations that change nothing which these
laws read, and fill no slot, are `State.Aside`. -/

open Sys2Proof Sys2Proof.Machine

namespace Sys2Proof.Machine

/-! ## The laws -/

/-- A request that may be in service while a wipe is in progress (R105, R124, R143). -/
def Service.spared (v : Service) : Prop := v.struck = true ∨ (v.request = .wipe ∧ v.stage ≠ .takeOwnership)

/-- No key is held and none can be loaded: WIPING or FAULT, no session end pending (R68, R140). -/
def State.Barred (p : Power) (s : State) : Prop :=
  s.power = p ∧ s.DormantLaw ∧ s.NoKeys ∧ (s.sessionAccess = .wiping ∨ s.sessionAccess = .fault) ∧ s.sessionEnd = false

/-- Barred, with no request in service that could open a session. -/
def State.Safe (p : Power) (s : State) : Prop := s.Barred p ∧ ∀ v ∈ s.service, v.spared

/-- No wipe is in progress, and keys are held in a session only (R62, R141). -/
def State.Idle (p : Power) (s : State) : Prop :=
  s.power = p ∧ s.DormantLaw ∧ s.engine.job = none ∧ (s.sessionAccess.holdsKeys = false → s.NoKeys)

def State.Lawful (p : Power) (s : State) : Prop := s.Safe p ∨ s.Idle p

/-- The law of a part that is off or in its power-up sequence (R166, R167). -/
def State.Starting (s : State) : Prop := s.power ≠ .running ∧ s.DormantLaw ∧ s.StartingLaw

/-- The key law of any state. -/
def State.KeyKept (s : State) : Prop := s.Starting ∨ s.Lawful .running

theorem State.Lawful.dormant {p : Power} {s : State} (h : s.Lawful p) : s.DormantLaw := by
  rcases h with ⟨⟨_, hd, _⟩, _⟩ | ⟨_, hd, _⟩ <;> exact hd

/-- With a wipe in progress a lawful part is safe. -/
theorem State.Lawful.safe {p : Power} {s : State} (h : s.Lawful p) (hj : s.engine.job ≠ none) : s.Safe p :=
  h.resolve_right fun hi => hj hi.2.2.1

theorem State.Lawful.idle {p : Power} {s : State} (h : s.Lawful p) (ha : s.sessionAccess ≠ .wiping)
    (hf : s.sessionAccess ≠ .fault) : s.Idle p :=
  h.resolve_left fun ⟨⟨_, _, _, hs, _⟩, _⟩ => hs.elim ha hf

/-- The key law splits by the place between power-good and power loss. -/
theorem State.keyLaw_iff (s : State) : s.KeyLaw ↔ s.KeyKept := by
  constructor
  · rintro ⟨hdormant, hstarting, hwipe, hkeys⟩
    by_cases hp : s.power = .running
    · right
      cases hj : s.engine.job with
      | none => exact .inr ⟨hp, hdormant, hj, hkeys⟩
      | some j =>
        obtain ⟨hno, haccess, hend, hservice⟩ := hwipe hp (by rw [hj]; rfl)
        exact .inl ⟨⟨hp, hdormant, hno, haccess, hend⟩, hservice⟩
    · exact .inl ⟨hp, hdormant, hstarting⟩
  · rintro (⟨hp, hdormant, hstarting⟩ | ⟨⟨hp, hdormant, hno, haccess, hend⟩, hservice⟩ | ⟨hp, hdormant, hj, hkeys⟩)
    · exact ⟨hdormant, hstarting, fun h => absurd h hp, fun _ => (hstarting hp).2.2.2.2.2.1⟩
    · exact ⟨hdormant, fun h => absurd hp h, fun _ _ => ⟨hno, haccess, hend, hservice⟩, fun _ => hno⟩
    · exact ⟨hdormant, fun h => absurd hp h, fun _ h => (by rw [hj] at h; cases h), hkeys⟩

/-! ## Operations aside from the law -/

/-- What the laws read, but for the slots. -/
def State.keyFrame (s : State) : Power × Access × Option Access × Bool × Bool × Engine × Option Service × List Waiting ×
    Writer × WipeRecord :=
  (s.power, s.access, s.resume, s.heldPowerEnter, s.sessionEnd, s.engine, s.service, s.queue, s.writer, s.copies.wipe)

/-- `u` is `s` but for fields that the key law does not read, and no EMPTY slot has been filled. -/
def State.Aside (s u : State) : Prop :=
  u.keyFrame = s.keyFrame ∧ ∀ r : RangeIndex, s.slots[r].state = .empty → u.slots[r].state = .empty

theorem State.Aside.refl (s : State) : s.Aside s := ⟨rfl, fun _ h => h⟩

theorem State.Aside.noKeys {s u : State} (h : s.Aside u) (hs : s.NoKeys) : u.NoKeys := fun r => h.2 r (hs r)

theorem State.Aside.frame {s u : State} (h : s.Aside u) : u.power = s.power ∧ u.access = s.access ∧ u.resume = s.resume ∧
    u.heldPowerEnter = s.heldPowerEnter ∧ u.sessionEnd = s.sessionEnd ∧ u.engine = s.engine ∧ u.service = s.service ∧
    u.queue = s.queue ∧ u.writer = s.writer ∧ u.copies.wipe = s.copies.wipe := by
  simpa [State.keyFrame] using h.1

theorem State.Aside.dormant {s u : State} (h : s.Aside u) (hs : s.DormantLaw) : u.DormantLaw := by
  obtain ⟨_, ha, hr, hh, _⟩ := h.frame
  unfold State.DormantLaw
  rw [ha, hr, hh]
  exact hs

theorem State.Aside.sessionAccess {s u : State} (h : s.Aside u) : u.sessionAccess = s.sessionAccess := by
  obtain ⟨_, ha, hr, _⟩ := h.frame
  unfold State.sessionAccess
  rw [ha, hr]

theorem State.Barred.aside {p : Power} {s u : State} (hs : s.Barred p) (h : s.Aside u) : u.Barred p := by
  obtain ⟨hp, hd, hno, ha, he⟩ := hs
  exact ⟨h.frame.1.trans hp, h.dormant hd, h.noKeys hno, by rw [h.sessionAccess]; exact ha,
    h.frame.2.2.2.2.1.trans he⟩

theorem State.Safe.aside {p : Power} {s u : State} (hs : s.Safe p) (h : s.Aside u) : u.Safe p :=
  ⟨hs.1.aside h, by rw [h.frame.2.2.2.2.2.2.1]; exact hs.2⟩

theorem State.Idle.aside {p : Power} {s u : State} (hs : s.Idle p) (h : s.Aside u) : u.Idle p := by
  obtain ⟨hp, hd, hj, hk⟩ := hs
  exact ⟨h.frame.1.trans hp, h.dormant hd, by rw [h.frame.2.2.2.2.2.1]; exact hj, fun ha =>
    h.noKeys (hk (by rw [← h.sessionAccess]; exact ha))⟩

theorem State.Lawful.aside {p : Power} {s u : State} (hs : s.Lawful p) (h : s.Aside u) : u.Lawful p :=
  hs.imp (fun h' => h'.aside h) (fun h' => h'.aside h)

theorem State.Starting.aside {s u : State} (hs : s.Starting) (h : s.Aside u) : u.Starting := by
  obtain ⟨hp, hd, hlaw⟩ := hs
  obtain ⟨h1, h2, _, h4, h5, h6, h7, h8, h9, h10⟩ := h.frame
  refine ⟨by rw [h1]; exact hp, h.dormant hd, fun _ => ?_⟩
  obtain ⟨g1, g2, g3, g4, g5, g6, g7⟩ := hlaw hp
  rw [h1, h2, h4, h5, h6, h7, h8, h9, h10]
  exact ⟨g1, g2, g3, g4, g5, h.noKeys g6, g7⟩

theorem State.KeyKept.aside {s u : State} (hs : s.KeyKept) (h : s.Aside u) : u.KeyKept :=
  hs.imp (fun h' => h'.aside h) (fun h' => h'.aside h)

/-! ### Key slots -/

section
variable {s u : State} (h : s.Aside u)
include h

theorem State.Aside.setSlot {r : RangeIndex} {k : KeySlot} (hk : u.slots[r].state = .empty → k.state = .empty) :
    s.Aside (u.setSlot r k) := by
  refine ⟨h.1, fun q hq => ?_⟩
  show (u.slots.set r k)[q].state = .empty
  rw [vector_get_set]
  by_cases hr : r = q
  · subst hr
    rw [if_pos rfl]
    exact hk (h.2 r hq)
  · rw [if_neg hr]
    exact h.2 q hq

theorem State.Aside.raiseUse (r : RangeIndex) : s.Aside (u.raiseUse r) := h.setSlot fun he => he

theorem State.Aside.releaseSegment (g : Segment) : s.Aside (u.releaseSegment g) := by
  unfold State.releaseSegment
  split
  · refine h.setSlot fun he => ?_
    unfold KeySlot.released
    split
    · rfl
    · exact he
  · exact h

theorem State.Aside.bothLock (r : RangeIndex) : s.Aside (u.bothLock r) := by
  refine State.Aside.setSlot (u := u.setLocks r Locks.both) h fun he => ?_
  unfold KeySlot.bothLocked
  rw [show u.slots[r].state = .empty from he]
  exact he

theorem State.Aside.bothLockAll (rs : List RangeIndex) : s.Aside (u.bothLockAll rs) := by
  unfold State.bothLockAll
  induction rs generalizing u with
  | nil => exact h
  | cons r rs ih => exact ih (h.bothLock r)

theorem State.Aside.applyLocks (cs : List LockChange) : s.Aside (cs.foldl State.applyLocks u) := by
  induction cs generalizing u with
  | nil => exact h
  | cons c cs ih =>
    refine ih ?_
    unfold State.applyLocks
    split
    · exact h
    · split
      · exact h.bothLock _
      · exact h

theorem State.Aside.lockOn (v : View) (f : LockOn → Bool) : s.Aside (u.lockOn v f) := by
  unfold State.lockOn State.notifyIf
  split
  · exact h.bothLockAll _
  · exact h.bothLockAll _

theorem State.Aside.lowPowerLockOn : s.Aside u.lowPowerLockOn := by
  unfold State.lowPowerLockOn
  split
  · exact h.lockOn _ _
  · exact h.lockOn _ _
  · exact h

theorem State.Aside.asleepLockOn : s.Aside u.asleepLockOn := by
  unfold State.asleepLockOn
  split
  · exact h.lowPowerLockOn
  · exact h

theorem State.Aside.linkResetLockOn : s.Aside u.linkResetLockOn := by
  unfold State.linkResetLockOn
  split
  · exact h.lockOn _ _
  · exact h

/-! ### The Command Table and the ports -/

theorem State.Aside.closeEntry (t : Tag) : s.Aside (u.closeEntry t) := by
  unfold State.closeEntry
  (repeat' split) <;> exact h

theorem State.Aside.finishSegment (t : Tag) (g : Segment) : s.Aside (u.finishSegment t g) := by
  unfold State.finishSegment
  dsimp only
  split
  · exact (State.Aside.releaseSegment (u := { u.updateSegment t g.subTag Segment.finished with
      writeHeld := dropHeld g.subTag u.writeHeld }) h g).closeEntry t
  · exact State.Aside.closeEntry (u := { u.updateSegment t g.subTag Segment.finished with
      writeHeld := dropHeld g.subTag u.writeHeld }) h t

theorem State.Aside.releaseEntry (t : Tag) : s.Aside (u.releaseEntry t) := by
  unfold State.releaseEntry
  generalize (u.table[t].segments.filter fun g => g.status.isNone) = gs
  induction gs generalizing u with
  | nil => exact h
  | cons g gs ih => exact ih (h.releaseSegment g)

theorem State.Aside.abortEntry (t : Tag) : s.Aside (u.abortEntry t) := by
  unfold State.abortEntry
  split
  · exact State.Aside.closeEntry (u := (u.releaseEntry t).setEntry t _) (h.releaseEntry t) t
  · exact h

theorem State.Aside.orphanEntry (t : Tag) : s.Aside (u.orphanEntry t) := by
  unfold State.orphanEntry
  split
  · exact State.Aside.closeEntry (u := (u.releaseEntry t).setEntry t _) (h.releaseEntry t) t
  all_goals exact h

theorem State.Aside.dropHeldSectors : s.Aside u.dropHeldSectors := h

theorem State.Aside.abortTable : s.Aside u.abortTable := by
  have hfold : ∀ (ts : List Tag) (w : State), s.Aside w → s.Aside (ts.foldl State.abortEntry w) := by
    intro ts
    induction ts with
    | nil => exact fun _ hw => hw
    | cons t ts ih => exact fun w hw => ih _ (hw.abortEntry t)
  exact (hfold allTags u h).dropHeldSectors

theorem State.Aside.orphanTable : s.Aside u.orphanTable := by
  have hfold : ∀ (ts : List Tag) (w : State), s.Aside w → s.Aside (ts.foldl State.orphanEntry w) := by
    intro ts
    induction ts with
    | nil => exact fun _ hw => hw
    | cons t ts ih => exact fun w hw => ih _ (hw.orphanEntry t)
  exact (hfold allTags u h).dropHeldSectors

theorem State.Aside.bindSegment (k : Kind) (g : Segment) : s.Aside (State.bindSegment k u g) := by
  unfold State.bindSegment
  split
  · exact h.raiseUse _
  · exact h

theorem State.Aside.bind (t : Tag) (k : Kind) (v c : Nat) (gs : List Segment) (x : Option Nat) :
    s.Aside (u.bind t k v c gs x) := by
  show s.Aside (gs.foldl (State.bindSegment k) u)
  induction gs generalizing u with
  | nil => exact h
  | cons g gs ih => exact ih (h.bindSegment k g)

theorem State.Aside.admitData (t : Tag) (k : Kind) (c : Capsule) : s.Aside (u.admitData t k c) := by
  unfold State.admitData State.admitAddressed
  (repeat' split) <;> first | exact h.bind _ _ _ _ _ _ | exact h

theorem State.Aside.receiveSector (t : Tag) (g : Segment) (k : Nat) (x : Sector) : s.Aside (u.receiveSector t g k x) := by
  unfold State.receiveSector
  dsimp only
  split <;> exact h

theorem State.Aside.takeSector (d : DataSector) : s.Aside (u.takeSector d) := by
  unfold State.takeSector
  (repeat' split) <;> first | exact h.receiveSector _ _ _ _ | exact h

theorem State.Aside.takeReadSector (n k : Nat) (x : Sector) : s.Aside (u.takeReadSector n k x) := by
  unfold State.takeReadSector State.routeReadSector State.deliverSector
  (repeat' split) <;> exact h

theorem State.Aside.passSector (t : Tag) (g : Segment) (x : HeldSector) : s.Aside (u.passSector t g x) := by
  rw [State.passSector_eq]
  have hpassed : s.Aside (u.sectorPassed t g x) := h
  split
  · exact hpassed.finishSegment _ _
  · exact hpassed

theorem State.Aside.readSectorPasses (n k : Nat) : s.Aside (u.readSectorPasses n k) := by
  unfold State.readSectorPasses
  split
  · split
    · exact h.passSector _ _ _
    · exact h
  · exact h

theorem State.Aside.writeSectorGoes (n : Nat) : s.Aside (u.writeSectorGoes n) := by
  unfold State.writeSectorGoes
  split <;> exact h

theorem State.Aside.zeroSectorGoes (n k : Nat) : s.Aside (u.zeroSectorGoes n k) := by
  unfold State.zeroSectorGoes
  (repeat' split) <;> exact h

theorem State.Aside.segmentCompletion (t : Tag) (g : Segment) (st : Status) (x : Sector) :
    s.Aside (u.segmentCompletion t g st x) := by
  unfold State.segmentCompletion
  dsimp only
  split
  · exact h
  · exact State.Aside.finishSegment (u := u.setEntry t _) h _ _

theorem State.Aside.startBackoff : s.Aside u.startBackoff := by
  unfold State.startBackoff
  split <;> exact h

end

/-! ## The service place and record writes -/

theorem State.Barred.answer {p : Power} {s : State} (h : s.Barred p) (st : Status) (f : Response) : (s.answer st f).Safe p := by
  refine ⟨?_, by simp⟩
  unfold State.answer
  split
  · exact h
  · split <;> exact h

theorem State.Idle.answer {p : Power} {s : State} (h : s.Idle p) (st : Status) (f : Response) : (s.answer st f).Idle p := by
  unfold State.answer
  split
  · exact h
  · split <;> exact h

theorem State.Lawful.answer {p : Power} {s : State} (h : s.Lawful p) (st : Status) (f : Response) :
    (s.answer st f).Lawful p := h.imp (fun h' => h'.1.answer st f) (fun h' => h'.answer st f)

theorem State.Safe.requestWrite {p : Power} {s : State} (h : s.Safe p) (c : Content) (who : List Waiter) :
    (s.requestWrite c who).Safe p := by
  unfold State.requestWrite
  split <;> exact h

theorem State.Idle.requestWrite {p : Power} {s : State} (h : s.Idle p) (c : Content) (who : List Waiter) :
    (s.requestWrite c who).Idle p := by
  unfold State.requestWrite
  split <;> exact h

/-- The request in service moves on: while a wipe is in progress to a stage that cannot open a session. -/
theorem State.Barred.stage {p : Power} {s : State} {v : Service} (h : s.Barred p) (hv : v.spared) {g : Stage}
    (hg : g ≠ .takeOwnership) : (s.stage v g).Safe p :=
  ⟨h, fun w hw => by
    obtain rfl := Option.some.inj hw
    exact hv.imp id fun h' => ⟨h'.1, hg⟩⟩

theorem State.Lawful.stage {p : Power} {s : State} {v : Service} (h : s.Lawful p) (hv : s.service = some v) {g : Stage}
    (hg : g ≠ .takeOwnership) : (s.stage v g).Lawful p := by
  rcases h with h | h
  · exact .inl (h.1.stage (h.2 v hv) hg)
  · exact .inr h

theorem State.Barred.awaitWrite {p : Power} {s : State} {v : Service} (h : s.Barred p) (hv : v.spared) {g : Stage}
    (hg : g ≠ .takeOwnership) (c : Content) : (s.awaitWrite v g c).Safe p := (h.stage hv hg).requestWrite _ _

theorem State.Idle.awaitWrite {p : Power} {s : State} (h : s.Idle p) (v : Service) (g : Stage) (c : Content) :
    (s.awaitWrite v g c).Idle p := State.Idle.requestWrite (s := s.stage v g) h _ _

theorem State.landWrite_lawful {p : Power} {s : State} (h : s.Lawful p) (w : RecordWrite) : (s.landWrite w).Lawful p := by
  unfold State.landWrite State.takeContent
  split
  case h_2 => unfold State.takeLayout; dsimp only; split <;> exact h
  all_goals exact h

/-! ## Entering an access state -/

theorem State.enter_sessionAccess (s : State) {a : Access} (ha : a ≠ .dormant) : (s.enter a).sessionAccess = a := by
  unfold State.enter State.sessionAccess
  by_cases h : s.access = .dormant
  · simp [h]
  · simp [h, ha]

theorem State.DormantLaw.enter {s : State} (h : s.DormantLaw) {a : Access} (ha : a ≠ .dormant) : (s.enter a).DormantLaw := by
  obtain ⟨hiff, hne, hheld⟩ := h
  unfold State.enter
  split
  · rename_i hd
    exact ⟨⟨fun _ => rfl, fun _ => hd⟩, fun h => ha (Option.some.inj h), hheld⟩
  · rename_i hd
    refine ⟨⟨fun h => absurd h ha, fun h => absurd (hiff.mpr h) hd⟩, hne, fun h => absurd h ha⟩

theorem State.enter_power (s : State) (a : Access) : (s.enter a).power = s.power := State.power_of_fixed (s.enter_fixed a)

theorem State.enter_slots (s : State) (a : Access) : (s.enter a).slots = s.slots := by
  unfold State.enter
  split <;> rfl

theorem State.enter_engine (s : State) (a : Access) : (s.enter a).engine = s.engine := by
  unfold State.enter
  split <;> rfl

/-- WIPING and FAULT are entered without keys. -/
theorem State.barred_enter {p : Power} {s : State} (hp : s.power = p) (hd : s.DormantLaw) (hno : s.NoKeys)
    (he : s.sessionEnd = false) {a : Access} (ha : a = .wiping ∨ a = .fault) : (s.enter a).Barred p := by
  have hne : a ≠ .dormant := by rcases ha with rfl | rfl <;> decide
  refine ⟨(s.enter_power a).trans hp, hd.enter hne, ?_, ?_, (s.enter_sessionEnd a).trans he⟩
  · intro r
    rw [State.enter_slots]
    exact hno r
  · rw [s.enter_sessionAccess hne]
    exact ha

/-- With no wipe in progress an access state is entered, without keys where it holds none. -/
theorem State.idle_enter {p : Power} {s : State} (hp : s.power = p) (hd : s.DormantLaw) (hj : s.engine.job = none)
    {a : Access} (hne : a ≠ .dormant) (hkeys : a.holdsKeys = false → s.NoKeys) : (s.enter a).Idle p := by
  refine ⟨(s.enter_power a).trans hp, hd.enter hne, by rw [State.enter_engine]; exact hj, fun h r => ?_⟩
  rw [s.enter_sessionAccess hne] at h
  rw [State.enter_slots]
  exact hkeys h r

/-! ## The Wipe Engine -/

/-- Safety reads nothing of the Wipe Engine. -/
theorem State.Safe.engineWrite {p : Power} {s : State} (h : s.Safe p) (j : WipeJob) (g : WipeStage) (c : Content) :
    (s.engineWrite j g c).Safe p :=
  State.Safe.requestWrite (s := { s with engine := { s.engine with job := some { j with stage := g } } }) h _ _

theorem State.Safe.rewriteOwner {p : Power} {s : State} (h : s.Safe p) (j : WipeJob) : (s.rewriteOwner j).Safe p := by
  unfold State.rewriteOwner
  split
  · exact h.engineWrite _ _ _
  · exact State.Safe.engineWrite (s := s.drawn) h _ _ _

theorem State.Safe.beginFinish {p : Power} {s : State} (h : s.Safe p) (j : WipeJob) : (s.beginFinish j).Safe p := by
  unfold State.beginFinish
  split
  · exact h
  · split
    · exact h.engineWrite _ _ _
    · exact State.Safe.engineWrite (s := s.drawn) h _ _ _

theorem State.Safe.issueStep {p : Power} {s : State} (h : s.Safe p) (j : WipeJob) (n : Nat) : (State.issueStep j s n).Safe p := by
  unfold State.issueStep
  split
  · exact h
  · split <;> exact h

theorem State.Safe.settleSanitize {p : Power} {s : State} (h : s.Safe p) (j : WipeJob) : (s.settleSanitize j).Safe p := by
  have hadvanced : (s.advanceFrontier j).Safe p := by
    unfold State.advanceFrontier
    split
    · exact h
    · rename_i z _
      split
      · exact State.Safe.requestWrite (s := { s with engine := { s.engine with
          sanitize := some { z with frontier := z.reached } } }) h _ _
      · exact h
  unfold State.settleSanitize State.endSanitizeIfDone
  split
  · exact hadvanced
  · split
    · exact hadvanced.beginFinish j
    · exact hadvanced

theorem State.Safe.startSanitize {p : Power} {s : State} (h : s.Safe p) (j : WipeJob) (c : Nat) :
    (s.startSanitize j c).Safe p := by
  have hfold : ∀ (j : WipeJob) (ns : List Nat) (u : State), u.Safe p → (ns.foldl (State.issueStep j) u).Safe p := by
    intro j ns
    induction ns with
    | nil => exact fun _ hu => hu
    | cons n ns ih => exact fun u hu => ih _ (hu.issueStep j n)
  unfold State.startSanitize
  split
  · exact h
  · refine State.Safe.settleSanitize ?_ _
    exact hfold _ _ _ h

theorem State.Safe.stepDone {p : Power} {s : State} (h : s.Safe p) (j : WipeJob) (z : Sanitize) (q : SanitizeStep) :
    (s.stepDone j z q).Safe p :=
  (State.Safe.issueStep (s := s.setSanitize j (z.updateStep q.subTag fun q => { q with state := .done })) h j
    q.subTag).settleSanitize j

theorem State.Safe.resumeWipe {p : Power} {s : State} (h : s.Safe p) : s.resumeWipe.Safe p := by
  unfold State.resumeWipe
  split
  · exact h
  · split
    · exact h.startSanitize _ _
    · dsimp only
      split <;> exact h.engineWrite _ _ _

theorem State.Safe.wakeEngine {p : Power} {s : State} (h : s.Safe p) : s.wakeEngine.Safe p := by
  unfold State.wakeEngine
  split
  · exact h
  · split
    · exact h.startSanitize _ _
    · exact h.beginFinish _
    · exact h

theorem State.Lawful.stepCompletion {p : Power} {s : State} (h : s.Lawful p) (n : Nat) (st : Status) :
    (s.stepCompletion n st).Lawful p := by
  unfold State.stepCompletion
  split
  · rename_i j z hj _
    have hs := h.safe (by rw [hj]; simp)
    split
    · exact h
    · split
      · exact .inl (hs.stepDone _ _ _)
      · exact .inl hs
      · split
        · exact .inl (hs.stepDone _ _ _)
        · exact .inl hs
  · exact h

/-! ### The purge and the triggers -/

theorem State.strikeService_spared (s : State) : ∀ v ∈ s.strikeService.service, v.spared := by
  intro v hv
  unfold State.strikeService at hv
  split at hv
  · rename_i hnone
    rw [hnone] at hv
    cases hv
  · split at hv
    all_goals first
      | (rw [State.answerPlain_service] at hv; cases hv)
      | (obtain rfl := Option.some.inj hv; exact .inl rfl)

/-- After a purge no key is held, whatever was in progress (R68, R146). -/
theorem State.purge_safe {p : Power} {s : State} (hp : s.power = p) (hd : s.DormantLaw) : s.purge.Safe p := by
  have hpurged : ∀ w : State, w.power = p → w.DormantLaw → ({ w.emptySlots with sessionEnd := false } : State).power = p ∧
      ({ w.emptySlots with sessionEnd := false } : State).DormantLaw ∧
      ({ w.emptySlots with sessionEnd := false } : State).NoKeys ∧
      ({ w.emptySlots with sessionEnd := false } : State).sessionEnd = false := fun w hp hd =>
    ⟨hp, hd, fun r => by
      show (Vector.replicate 16 KeySlot.empty)[r].state = .empty
      simp [KeySlot.empty], rfl⟩
  have habort := (State.Aside.refl s).abortTable
  have hu : s.purgeKeys.power = p ∧ s.purgeKeys.DormantLaw ∧ s.purgeKeys.NoKeys ∧ s.purgeKeys.sessionEnd = false :=
    hpurged _ (habort.frame.1.trans hp) (habort.dormant hd)
  unfold State.purge
  generalize s.purgeKeys = u at hu
  have hstruck : u.strikeService.power = p ∧ u.strikeService.DormantLaw ∧ u.strikeService.NoKeys ∧
      u.strikeService.sessionEnd = false := by
    unfold State.strikeService
    split
    · exact hu
    · split
      all_goals first
        | exact hu
        | (unfold State.answerPlain State.answer
           split
           · exact hu
           · split <;> exact hu)
  obtain ⟨h1, h2, h3, h4⟩ := hstruck
  have hbarred := State.barred_enter (s := { u.strikeService with backoff := none, latch := false }.notify .wipeStarted)
    h1 h2 h3 h4 (.inl rfl)
  refine ⟨hbarred, ?_⟩
  show ∀ v ∈ (State.enter _ .wiping).service, v.spared
  rw [State.enter_service]
  exact u.strikeService_spared

theorem State.Lawful.trigger {p : Power} {s : State} (h : s.Lawful p) (r : Reason) (d : Depth) : (s.trigger r d).Lawful p := by
  unfold State.trigger
  split
  · exact h
  · have hp : s.power = p := by rcases h with ⟨⟨hp, _⟩, _⟩ | ⟨hp, _⟩ <;> exact hp
    exact .inl ((State.purge_safe hp h.dormant).engineWrite _ _ _)

/-! ### The end of a wipe -/

/-- BLANK is reached with slot 0 loaded, or FAULT without a key. -/
theorem State.idle_reachBlank {p : Power} {s : State} (hp : s.power = p) (hd : s.DormantLaw) (hj : s.engine.job = none)
    (hno : s.NoKeys) : s.reachBlank.Idle p := by
  unfold State.reachBlank
  split
  · rename_i key _
    have hblank := State.idle_enter hp hd hj (a := .blank) (by decide) nofun
    refine ⟨hblank.1, hblank.2.1, hblank.2.2.1, fun h => ?_⟩
    have haccess : (s.enterBlank.loadGlobal key).sessionAccess = .blank := s.enter_sessionAccess (by decide)
    rw [haccess] at h
    cases h
  · exact State.idle_enter (s := s.markCorrupt 0) hp hd hj (a := .fault) (by decide) fun _ => hno

theorem State.Barred.endWipe {p : Power} {s : State} (h : s.Barred p) (j : WipeJob) : (s.endWipe j).Idle p := by
  obtain ⟨hp, hd, hno, _, _⟩ := h
  unfold State.endWipe
  dsimp only
  split
  · exact State.idle_enter (s := { s with engine := ⟨none, none⟩ }.notify .wipeDone) hp hd rfl (a := .fault) (by decide)
      fun _ => hno
  · split
    · exact State.idle_enter (s := { s with engine := ⟨none, none⟩ }.notify .wipeDone) hp hd rfl (a := .locked) (by decide)
        fun _ => hno
    · exact State.idle_reachBlank (s := { s with engine := ⟨none, none⟩ }.notify .wipeDone) hp hd rfl hno

theorem State.Lawful.engineTold {p : Power} {s : State} (h : s.Lawful p) : s.engineTold.Lawful p := by
  unfold State.engineTold
  split
  · exact h
  · rename_i j hj
    have hs := h.safe (by rw [hj]; simp)
    split
    case h_1 => exact .inl (hs.engineWrite _ _ _)
    case h_2 => exact .inl (hs.rewriteOwner j)
    case h_3 => split <;> exact .inl (hs.engineWrite _ _ _)
    case h_4 => exact .inl (hs.engineWrite _ _ _)
    case h_5 => split <;> exact .inl (hs.engineWrite _ _ _)
    case h_6 =>
      split
      · exact .inl (hs.beginFinish j)
      · exact .inl (hs.engineWrite _ _ _)
    case h_7 => exact .inl (hs.startSanitize j 0)
    case h_8 => exact .inl (hs.engineWrite _ _ _)
    case h_9 => exact .inr (hs.1.endWipe j)
    all_goals exact h

/-! ## Sessions -/

/-- A pending session end completes with every slot EMPTY (R74). -/
theorem State.Lawful.completeSessionEnd {p : Power} {s : State} (h : s.Lawful p) (hr : s.sessionEndReady = true) :
    s.completeSessionEnd.Lawful p := by
  simp only [State.sessionEndReady, Bool.and_eq_true] at hr
  obtain ⟨hend, hempty⟩ := hr
  have hno : s.NoKeys := fun r => of_decide_eq_true (List.all_eq_true.mp hempty r (List.mem_finRange r))
  rcases h with ⟨⟨_, _, _, _, he⟩, _⟩ | ⟨hp, hd, hj, _⟩
  · rw [he] at hend
    cases hend
  · have hlocked : ({ s with sessionEnd := false } : State).enterLocked.Idle p :=
      State.idle_enter (s := { s with sessionEnd := false }) hp hd hj (a := .locked) (by decide) fun _ => hno
    unfold State.completeSessionEnd
    dsimp only
    split
    · exact .inr (hlocked.answer _ _)
    · exact .inr hlocked

/-- Ending a session both-locks its ranges and loads nothing. -/
theorem State.Idle.markSessionEnd {p : Power} {s : State} (h : s.Idle p) : s.markSessionEnd.Idle p :=
  show (s.bothLockAll allRanges).Idle p from h.aside ((State.Aside.refl s).bothLockAll allRanges)

theorem State.Lawful.enclosureLock {p : Power} {s : State} (h : s.Lawful p) : s.enclosureLock.Lawful p := by
  unfold State.enclosureLock
  split
  · rename_i ha
    exact .inr (h.idle (by rw [ha]; decide) (by rw [ha]; decide)).markSessionEnd
  · rename_i ha
    exact .inr (h.idle (by rw [ha]; decide) (by rw [ha]; decide)).markSessionEnd
  · exact h

theorem State.Lawful.applyOpening {p : Power} {s : State} (h : s.Lawful p) : s.applyOpening.Lawful p := by
  unfold State.applyOpening
  dsimp only
  split
  · exact h
  · split
    · exact h
    · exact State.Lawful.enclosureLock (s := { s with latched := false }) h
    · exact State.Lawful.trigger (s := { s with latched := false }) h _ _

/-! ### Loads -/

theorem State.loadRanges_keyFrame (ks : List RangeKey) (s : State) : (s.loadRanges ks).keyFrame = s.keyFrame := by
  unfold State.loadRanges
  induction ks generalizing s with
  | nil => rfl
  | cons k ks ih => exact (ih _).trans rfl

/-- A load into a session (R64, R65). -/
theorem State.Idle.loadRanges {p : Power} {s : State} (h : s.Idle p) (ha : s.sessionAccess.holdsKeys = true)
    (ks : List RangeKey) : (s.loadRanges ks).Idle p := by
  have hframe := s.loadRanges_keyFrame ks
  simp only [State.keyFrame, Prod.mk.injEq] at hframe
  obtain ⟨h1, h2, h3, h4, _, h6, _⟩ := hframe
  obtain ⟨hp, hd, hj, _⟩ := h
  refine ⟨h1.trans hp, ?_, by rw [h6]; exact hj, fun hno => ?_⟩
  · unfold State.DormantLaw
    rw [h2, h3, h4]
    exact hd
  · unfold State.sessionAccess at hno ha
    rw [h2, h3, ha] at hno
    cases hno

/-- The load of an UNLOCK that opens or stages a session (R64, R109). -/
theorem State.Idle.unlockLoad {p : Power} {s : State} (h : s.Idle p) (w : View) (ks : List RangeKey) (now : Bool) :
    (s.unlockLoad w ks now).Idle p := by
  have hframe := ({ s with locks := Vector.replicate 16 Locks.both } : State).loadRanges_keyFrame ks
  simp only [State.keyFrame, Prod.mk.injEq] at hframe
  obtain ⟨h1, h2, h3, h4, _, h6, _⟩ := hframe
  obtain ⟨hp, hd, hj, _⟩ := h
  have hdormant : (({ s with locks := Vector.replicate 16 Locks.both } : State).loadRanges ks).DormantLaw := by
    unfold State.DormantLaw
    rw [h2, h3, h4]
    exact hd
  have henter : ∀ a : Access, a ≠ .dormant → a.holdsKeys = true →
      ((({ s with locks := Vector.replicate 16 Locks.both } : State).loadRanges ks).enter a).Idle p := fun a ha hk =>
    State.idle_enter (h1.trans hp) hdormant (by rw [h6]; exact hj) ha fun hno => (by rw [hk] at hno; cases hno)
  unfold State.unlockLoad
  dsimp only
  split
  · exact State.Idle.aside (henter .opened (by decide) rfl) (State.Aside.asleepLockOn (State.Aside.refl _))
  · exact State.Idle.aside (henter .staged (by decide) rfl) (State.Aside.asleepLockOn (State.Aside.refl _))

/-! ## Requests with no wipe in progress -/

section
variable {p : Power} {s : State} (h : s.Idle p)
include h

theorem State.Idle.triggered (r : Reason) (d : Depth) : (s.trigger r d).Lawful p := State.Lawful.trigger (.inr h) r d

theorem State.Idle.servePresentPlatform (x : Token) : (s.servePresentPlatform x).Lawful p := by
  unfold State.servePresentPlatform
  dsimp only
  split
  · exact .inr (h.answer _ _)
  · split
    · exact .inr (State.Idle.answer (s := { s with presented := true, platform := .matched }) h _ _)
    · split
      · exact .inr (State.Idle.answer (s := { s with presented := true, platform := .mismatched }) h _ _)
      · exact State.Idle.triggered (State.Idle.answer (s := { s with presented := true, platform := .mismatched }) h _ _) _ _

theorem State.Idle.unlockAnswer (v : Service) (now : Bool) (f : Response) : (s.unlockAnswer v now f).Idle p := by
  unfold State.unlockAnswer
  split
  · exact h.answer _ _
  · split
    · exact h
    · exact State.Idle.answer (s := s.drawn) h _ _

theorem State.Idle.mismatch (i : SlotIndex) : (s.mismatch i).Idle p := State.Idle.answer (s := s.markCorrupt i) h _ _

theorem State.Idle.serveUnlock (v : Service) (i : SlotIndex) (x : Secret) (b : Byte) : (s.serveUnlock v i x b).Lawful p := by
  unfold State.serveUnlock
  split
  · exact (h.answer _ _).triggered _ _
  · split
    · unfold State.unlockLocked
      split
      · exact .inr (h.answer _ _)
      · split
        · exact .inr (h.mismatch i)
        · exact .inr ((h.unlockLoad _ _ _).unlockAnswer _ _ _)
    · unfold State.unlockOpen
      split
      · exact .inr (h.answer _ _)
      · rename_i hno
        have hopen : s.sessionAccess = .opened := by
          by_contra hne
          exact hno (by simp [hne])
        split
        · exact .inr (h.mismatch i)
        · exact .inr (((h.loadRanges (by rw [hopen]; rfl) _).aside (State.Aside.refl _).asleepLockOn).answer _ _)

theorem State.Idle.serveSetCredential (v : Service) (x : Secret) (a b c : Byte) (y : Secret) (l : List Byte) :
    (s.serveSetCredential v x a b c y l).Idle p := by
  unfold State.serveSetCredential
  split
  · split
    · split
      · exact h.answer _ _
      · dsimp only
        split
        · exact h.awaitWrite _ _ _
        · split
          · exact h.mismatch 0
          · exact State.Idle.awaitWrite (s := s.drawn) h _ _ _
    · exact h.answer _ _
  · exact h.answer _ _

theorem State.Idle.serveChangeSecret (v : Service) (i : SlotIndex) (x y : Secret) : (s.serveChangeSecret v i x y).Idle p := by
  unfold State.serveChangeSecret
  split
  · exact h.mismatch i
  · exact State.Idle.awaitWrite (s := s.drawn) h _ _ _

theorem State.Idle.serveLock (v : Service) (i : SlotIndex) (l : List Byte) : (s.serveLock v i l).Idle p := by
  unfold State.serveLock
  split
  · exact h.answer _ _
  · split
    · exact h.answer _ _
    · have hlocked := fun rs => h.aside ((State.Aside.refl s).bothLockAll rs)
      exact hlocked (s.lockTakes i l)

theorem State.Idle.serveSetLocks (i : SlotIndex) (es : List LockEntry) : (s.serveSetLocks i es).Idle p := by
  unfold State.serveSetLocks
  split
  · exact h.answer _ _
  · split
    · exact h.answer _ _
    · split
      · exact h.answer _ _
      · split
        · exact h.answer _ _
        · exact (h.aside ((State.Aside.refl s).applyLocks _)).answer _ _

theorem State.Idle.serveDefineRange (v : Service) (a b c : Byte) (m n : Nat) : (s.serveDefineRange v a b c m n).Idle p := by
  unfold State.serveDefineRange
  split
  · exact h.answer _ _
  · dsimp only
    split
    · exact h.answer _ _
    · split
      · exact h.awaitWrite _ _ _
      · exact h.answer _ _

theorem State.Idle.serveDeleteRange (v : Service) (b : Byte) : (s.serveDeleteRange v b).Idle p := by
  unfold State.serveDeleteRange
  split
  · exact h.answer _ _
  · split
    · exact h.answer _ _
    · exact h.awaitWrite _ _ _

theorem State.Idle.serveEraseRange (v : Service) (b : Byte) : (s.serveEraseRange v b).Idle p := by
  unfold State.serveEraseRange
  split
  · exact h.answer _ _
  · split
    · exact h.answer _ _
    · have hlocked := fun r => h.aside ((State.Aside.refl s).bothLock r)
      exact hlocked _

theorem State.Idle.serveSetPolicy (v : Service) (f l a : Nat) (b c : Byte) : (s.serveSetPolicy v f l a b c).Idle p := by
  unfold State.serveSetPolicy
  split
  · exact h.awaitWrite _ _ _
  · exact h.answer _ _

theorem State.Idle.serveBindPlatform (v : Service) (b : Byte) (x : Token) : (s.serveBindPlatform v b x).Idle p := by
  unfold State.serveBindPlatform
  split
  · exact h.awaitWrite _ _ _
  · exact h.answer _ _

theorem State.Idle.serveFinalize (v : Service) : (s.serveFinalize v).Idle p := by
  unfold State.serveFinalize
  split
  · exact h.answer _ _
  · exact h.awaitWrite _ _ _

theorem State.Idle.serveWipe : s.serveWipe.Lawful p := by
  unfold State.serveWipe
  rw [h.2.2.1]
  exact (h.answer _ _).triggered _ _

theorem State.Idle.effect (v : Service) (i : SlotIndex) (x : Secret) : (s.effect v i x).Lawful p := by
  unfold State.effect
  split
  case h_1 => exact .inr (State.Idle.answer (s := { s with notices := NoticeSet.empty, attention := false }) h _ _)
  case h_2 => exact .inr (h.answer _ _)
  case h_3 => exact .inr (h.answer _ _)
  case h_4 => exact .inr (State.Idle.answer (s := { s with attention := true }) h _ _)
  case h_5 => exact .inr h
  case h_6 => exact .inr (State.Idle.awaitWrite (s := s.drawn) h _ _ _)
  case h_7 => exact h.servePresentPlatform _
  case h_8 => exact h.serveUnlock _ _ _ _
  case h_9 => exact .inr (h.serveSetCredential _ _ _ _ _ _ _)
  case h_10 => exact .inr (h.serveChangeSecret _ _ _ _)
  case h_11 => exact .inr (h.serveLock _ _ _)
  case h_12 => exact .inr (h.serveSetLocks _ _)
  case h_13 => exact .inr h.markSessionEnd
  case h_14 => exact .inr (h.serveDefineRange _ _ _ _ _ _)
  case h_15 => exact .inr (h.serveDeleteRange _ _)
  case h_16 => exact .inr (State.Idle.answer (s := { s with latch := s.latch || decide (s.access = Access.locked) }) h _ _)
  case h_17 => exact .inr (h.serveSetPolicy _ _ _ _ _ _)
  case h_18 => exact .inr (h.serveBindPlatform _ _ _)
  case h_19 => exact .inr (h.serveFinalize _)
  case h_20 => exact .inr (h.serveEraseRange _ _)
  case h_21 => exact h.serveWipe

theorem State.Idle.afterGate (v : Service) (i : SlotIndex) (x : Secret) : (s.afterGate v i x).Lawful p := by
  unfold State.afterGate
  split
  · exact h.effect v i x
  · exact .inr (h.answer _ _)

theorem State.Idle.afterReset (v : Service) (i : SlotIndex) (x : Secret) : (s.afterReset v i x).Lawful p := by
  unfold State.afterReset
  split
  · exact .inr (State.Idle.awaitWrite (s := s.drawn) h _ _ _)
  · exact h.afterGate v i x

theorem State.Idle.enterGate (v : Service) (i : SlotIndex) : (s.enterGate v i).Idle p := by
  unfold State.enterGate
  split
  · exact h.answer _ _
  · exact h.awaitWrite _ _ _

theorem State.Idle.gateVerify (v : Service) (i : SlotIndex) (x : Secret) : (s.gateVerify v i x).Lawful p := by
  unfold State.gateVerify
  split
  · exact .inr (h.awaitWrite _ _ _)
  · unfold State.gateFailed
    dsimp only
    split
    · exact (h.answer _ _).triggered _ _
    · exact .inr ((h.answer _ _).aside (State.Aside.refl _).startBackoff)

theorem State.Idle.effectWithoutGate (r : Request) (v : Service) : (s.effectWithoutGate r v).Lawful p := by
  unfold State.effectWithoutGate
  split
  · exact .inr (h.answer _ _)
  · exact h.effect _ _ _

theorem State.Idle.testRequest (v : Service) : (s.testRequest v).Lawful p := by
  unfold State.testRequest
  dsimp only
  split
  · exact .inr (h.answer _ _)
  · split
    · exact .inr (h.answer _ _)
    · split
      · split
        · exact h.effectWithoutGate _ _
        · exact h.effectWithoutGate _ _
        · exact .inr (h.enterGate _ _)
      · exact .inr (h.answer _ _)

theorem State.Idle.rangeUsers (v : Service) (j : RangeJob) : (s.rangeUsers v j).Idle p := by
  unfold State.rangeUsers
  split
  · exact h.awaitWrite _ _ _
  · exact h.answer _ _

theorem State.Idle.rangeOwner (v : Service) (x : Secret) (j : RangeJob) : (s.rangeOwner v x j).Idle p := by
  unfold State.rangeOwner
  split
  · exact h.rangeUsers v j
  · split
    · exact State.Idle.awaitWrite (s := s.drawn) h _ _ _
    · exact State.Idle.awaitWrite (s := s.drawn) h _ _ _
    · exact h.awaitWrite _ _ _
    · split
      · exact h.awaitWrite _ _ _
      · exact h.rangeUsers v j

/-- TAKE OWNERSHIP opens a session (R114). -/
theorem State.Idle.ownershipTaken : s.ownershipTaken.Idle p := by
  obtain ⟨hp, hd, hj, _⟩ := h
  exact (State.idle_enter hp hd hj (a := .opened) (by decide) nofun).answer _ _

end

/-! ## Requests while a wipe is in progress -/

section
variable {p : Power} {s : State} (h : s.Barred p)
include h

/-- A WIPE in FAULT resumes the recorded wipe, or is only answered (R143). -/
theorem State.Barred.serveWipe (hj : s.engine.job ≠ none) : s.serveWipe.Safe p := by
  unfold State.serveWipe
  split
  · rename_i j _
    split
    · obtain ⟨⟨hp, hd, hno, _, he⟩, _⟩ := h.answer .good (.wipe j.reason j.depth)
      have hbarred := State.barred_enter (s := s.answer .good (.wipe j.reason j.depth)) hp hd hno he (.inl rfl)
      have hservice : ((s.answer .good (.wipe j.reason j.depth)).enter .wiping).service = none := by simp
      exact State.Safe.resumeWipe (s := { (s.answer .good (.wipe j.reason j.depth)).enterWiping with
        faultCause := none
        engine := { (s.answer .good (.wipe j.reason j.depth)).enterWiping.engine with
          job := some { j with fromSelfTestFault := decide (s.faultCause = some .selfTest) } } })
        ⟨hbarred, fun v hv => by
          have hv : v ∈ ((s.answer .good (.wipe j.reason j.depth)).enter .wiping).service := hv
          rw [hservice] at hv
          cases hv⟩
    · exact h.answer _ _
  · rename_i hnone
    exact absurd hnone hj

/-- Of the requests that a barred part's access state does not refuse, each is QUERY STATE or WIPE (R122). -/
theorem State.Barred.request_of_served {r : Request} (ha : accessRefusal s.access r = none) : r = .queryState ∨ r = .wipe := by
  obtain ⟨_, ⟨hiff, _, _⟩, _, hs, _⟩ := h
  unfold State.sessionAccess at hs
  by_cases hd : s.access = .dormant
  · rw [hd] at ha
    cases ha
  · rw [if_neg hd] at hs
    rcases hs with hs | hs <;> rw [hs] at ha <;> unfold accessRefusal at ha <;> dsimp only at ha
    · exact .inl (by by_contra hne; rw [if_neg hne] at ha; cases ha)
    · by_contra hne
      rw [if_neg hne] at ha
      cases ha

theorem State.Barred.enterGate {v : Service} (hv : v.spared) (i : SlotIndex) : (s.enterGate v i).Safe p := by
  unfold State.enterGate
  split
  · exact h.answer _ _
  · exact h.awaitWrite hv (by nofun) _

theorem State.Barred.testRequest {v : Service} (hj : s.engine.job ≠ none) (hg : v.stage ≠ .takeOwnership) :
    (s.testRequest v).Safe p := by
  have hquery : ∀ w : Service, w.request = .queryState → (s.effect w 0 0).Safe p := fun w hw => by
    unfold State.effect
    rw [hw]
    exact State.Barred.answer (s := { s with notices := NoticeSet.empty, attention := false }) h _ _
  have hwipe : ∀ w : Service, w.request = .wipe → (s.effect w 0 0).Safe p := fun w hw => by
    unfold State.effect
    rw [hw]
    exact h.serveWipe hj
  unfold State.testRequest
  dsimp only
  split
  · exact h.answer _ _
  · split
    · exact h.answer _ _
    · rename_i ha
      split
      · rcases h.request_of_served ha with hr | hr
        · have hfree : (s.effectWithoutGate v.request v).Safe p := by
            unfold State.effectWithoutGate
            rw [hr]
            exact hquery v hr
          have hneed : requestNeed v.request s.inStoreFault = .ignored := by rw [hr]; rfl
          rw [hneed]
          exact hfree
        · have hfree : (s.effectWithoutGate v.request v).Safe p := by
            unfold State.effectWithoutGate
            rw [hr]
            exact hwipe v hr
          split
          · exact hfree
          · exact hfree
          · exact h.enterGate (.inr ⟨hr, hg⟩) _
      · exact h.answer _ _

theorem State.Barred.afterGate {v : Service} (hj : s.engine.job ≠ none) (hr : v.request = .wipe) (i : SlotIndex) (x : Secret) :
    (s.afterGate v i x).Safe p := by
  unfold State.afterGate
  split
  · unfold State.effect
    rw [hr]
    exact h.serveWipe hj
  · exact h.answer _ _

theorem State.Barred.gateVerify {v : Service} (hj : s.engine.job ≠ none) (hv : v.spared) (i : SlotIndex) (x : Secret) :
    (s.gateVerify v i x).Safe p := by
  unfold State.gateVerify
  split
  · exact h.awaitWrite hv (by nofun) _
  · unfold State.gateFailed
    dsimp only
    split
    · have hkept : (s.answerPlain .authFailed).engine = s.engine := by
        unfold State.answerPlain State.answer
        split
        · rfl
        · split <;> rfl
      unfold State.triggerWipe State.trigger
      rw [if_pos (by rw [hkept]; exact Option.isSome_iff_ne_none.mpr hj)]
      exact h.answer _ _
    · exact (h.answer _ _).aside (State.Aside.refl _).startBackoff

theorem State.Barred.rangeUsers {v : Service} (hv : v.spared) (j : RangeJob) : (s.rangeUsers v j).Safe p := by
  unfold State.rangeUsers
  split
  · exact h.awaitWrite hv (by nofun) _
  · exact h.answer _ _

theorem State.Barred.rangeOwner {v : Service} (hv : v.spared) (x : Secret) (j : RangeJob) : (s.rangeOwner v x j).Safe p := by
  unfold State.rangeOwner
  split
  · exact h.rangeUsers hv j
  · split
    · exact State.Barred.awaitWrite (s := s.drawn) h hv (by nofun) _
    · exact State.Barred.awaitWrite (s := s.drawn) h hv (by nofun) _
    · exact h.awaitWrite hv (by nofun) _
    · split
      · exact h.awaitWrite hv (by nofun) _
      · exact h.rangeUsers hv j

end

/-! ## The channel goes on -/

theorem State.Lawful.channelTold {p : Power} {s : State} (h : s.Lawful p) : s.channelTold.Lawful p := by
  unfold State.channelTold
  split
  · exact h
  · rename_i v hv
    split
    · exact h.answer _ _
    · rename_i hstruck
      by_cases hj : s.engine.job = none
      · have hi : s.Idle p := by
          rcases h with ⟨⟨hp, hd, hno, _, _⟩, _⟩ | h
          · exact ⟨hp, hd, hj, fun _ => hno⟩
          · exact h
        split
        · exact hi.gateVerify _ _ _
        · exact hi.afterReset _ _ _
        · exact hi.afterGate _ _ _
        · exact .inr hi.ownershipTaken
        · exact .inr (hi.answer _ _)
        · exact .inr (hi.rangeOwner _ _ _)
        · exact .inr (hi.rangeUsers _ _)
        · exact .inr (hi.rangeUsers _ _)
        · exact h
      · obtain ⟨hb, hspared⟩ := h.safe hj
        have hv' := hspared v hv
        obtain ⟨hr, hg⟩ := hv'.resolve_left hstruck
        split
        · exact .inl (hb.gateVerify hj hv' _ _)
        · unfold State.afterReset
          split
          · exact .inl (State.Barred.awaitWrite (s := s.drawn) hb hv' (by nofun) _)
          · exact .inl (hb.afterGate hj hr _ _)
        · exact .inl (hb.afterGate hj hr _ _)
        · rename_i hstage
          exact absurd hstage hg
        · exact .inl (hb.answer _ _)
        · exact .inl (hb.rangeOwner hv' _ _)
        · exact .inl (hb.rangeUsers hv' _)
        · exact .inl (hb.rangeUsers hv' _)
        · exact h

theorem State.Lawful.enterService {p : Power} {s : State} (h : s.Lawful p) (q : Waiting) : (s.enterService q).Lawful p := by
  unfold State.enterService
  split
  · exact h
  · rename_i e _
    have htested : ∀ v : Service, v.stage ≠ .takeOwnership → ({ s with service := some v }.testRequest v).Lawful p := by
      intro v hv
      by_cases hj : s.engine.job = none
      · have hi : s.Idle p := by
          rcases h with ⟨⟨hp, hd, hno, _, _⟩, _⟩ | h
          · exact ⟨hp, hd, hj, fun _ => hno⟩
          · exact h
        exact State.Idle.testRequest (s := { s with service := some v }) hi v
      · exact .inl (State.Barred.testRequest (s := { s with service := some v }) (h.safe hj).1 hj hv)
    exact htested _ (by nofun)

theorem State.Lawful.endHold {p : Power} {s : State} (h : s.Lawful p) : s.endHold.Lawful p := by
  unfold State.endHold
  split
  · exact h
  · rename_i v hv
    split
    · exact h.answer _ _
    · have hstaged := fun j => h.stage hv (g := .rangeLayout j) nofun
      unfold State.eraseLayout State.writeLayout State.awaitWrite
      exact (hstaged _).imp (fun h' => h'.requestWrite _ _) (fun h' => h'.requestWrite _ _)
    · split
      · exact h.answer _ _
      · exact h.stage hv nofun
    · exact h.answer _ _
    · exact h

/-! ## Link events -/

theorem State.Lawful.wake {p : Power} {s : State} (h : s.Lawful p) (hd : s.access = .dormant) : s.wake.Lawful p := by
  obtain ⟨hiff, hne, _⟩ := h.dormant
  obtain ⟨a, ha⟩ := Option.isSome_iff_exists.mp (hiff.mp hd)
  have hadormant : a ≠ .dormant := fun e => hne (by rw [ha, e])
  let u : State := { s with access := a, resume := none }
  have hsession : u.sessionAccess = s.sessionAccess := by
    simp [u, State.sessionAccess, hd, ha, hadormant]
  have hlaw : u.DormantLaw := ⟨⟨fun h' => absurd h' hadormant, nofun⟩, nofun, fun h' => absurd h' hadormant⟩
  have hu : u.Lawful p := by
    rcases h with ⟨⟨hp, _, hno, hs, he⟩, hv⟩ | ⟨hp, _, hj, hk⟩
    · exact .inl ⟨⟨hp, hlaw, hno, by rw [hsession]; exact hs, he⟩, hv⟩
    · exact .inr ⟨hp, hlaw, hj, fun h' => hk (by rw [← hsession]; exact h')⟩
  have hwake : s.wake = ((if u.access = .wiping then u.wakeEngine else u).forwardNotice .powerExit) := by
    unfold State.wake
    rw [ha]
    rfl
  rw [hwake]
  split
  · by_cases hj : u.engine.job = none
    · have hsame : u.wakeEngine = u := by
        unfold State.wakeEngine
        rw [hj]
      rw [hsame]
      exact hu
    · exact .inl (hu.safe hj).wakeEngine
  · exact hu

theorem State.Lawful.linkResetSession {p : Power} {s : State} (h : s.Lawful p) : s.linkResetSession.Lawful p := by
  have hmain : ∀ u : State, u.Lawful p →
      (match u.access with | .staged => u.handover | .opened => u.linkResetLockOn | _ => u).Lawful p := by
    intro u hu
    split
    · rename_i ha
      have hsession : u.sessionAccess = .staged := by simp [State.sessionAccess, ha]
      obtain ⟨hp, hd, hj, _⟩ := hu.idle (by rw [hsession]; decide) (by rw [hsession]; decide)
      exact .inr (State.idle_enter hp hd hj (a := .opened) (by decide) nofun)
    · exact hu.aside (State.Aside.refl u).linkResetLockOn
    · exact hu
  unfold State.linkResetSession
  dsimp only
  by_cases hr : s.sessionEndReady = true
  · rw [if_pos hr]
    exact hmain _ (h.completeSessionEnd hr)
  · rw [if_neg hr]
    exact hmain _ h

theorem State.Lawful.flushChannel {p : Power} {s : State} (h : s.Lawful p) : s.flushChannel.Lawful p := by
  rcases h with ⟨hb, hv⟩ | hi
  · refine .inl ⟨hb, fun v hv' => ?_⟩
    obtain ⟨w, hw, rfl⟩ := Option.map_eq_some_iff.mp hv'
    exact hv w hw
  · exact .inr hi

theorem State.Lawful.acknowledged {p : Power} {s : State} (h : s.Lawful p) :
    ((s.clearLatch.forwardNotice .linkReset).acknowledge .linkReset .good).Lawful p := h

theorem State.Lawful.resetLink {p : Power} {s : State} (h : s.Lawful p) : s.resetLink.Lawful p :=
  (h.aside (State.Aside.refl s).orphanTable).flushChannel.linkResetSession.acknowledged

theorem State.Lawful.applyPowerEnter {p : Power} {s : State} (h : s.Lawful p) (hheld : s.heldPowerEnter = true) :
    s.applyPowerEnter.Lawful p := by
  obtain ⟨hiff, hne, hno⟩ := h.dormant
  have hawake : s.access ≠ .dormant := fun hd => by
    rw [hno hd] at hheld
    cases hheld
  have hreleased : ({ s with heldPowerEnter := false } : State).Lawful p := by
    rcases h with ⟨⟨hp, _, hk, hs, he⟩, hv⟩ | ⟨hp, _, hj, hk⟩
    · exact .inl ⟨⟨hp, ⟨hiff, hne, fun _ => rfl⟩, hk, hs, he⟩, hv⟩
    · exact .inr ⟨hp, ⟨hiff, hne, fun _ => rfl⟩, hj, hk⟩
  unfold State.applyPowerEnter
  dsimp only
  split
  · exact hreleased
  · exact hreleased
  · rename_i hw hf
    have hsession : s.sessionAccess = s.access := if_neg hawake
    obtain ⟨hp, _, hj, hk⟩ := hreleased.idle (show s.sessionAccess ≠ .wiping by rw [hsession]; exact hw)
      (show s.sessionAccess ≠ .fault by rw [hsession]; exact hf)
    have haside := (State.Aside.refl ({ s with heldPowerEnter := false } : State)).lowPowerLockOn
    obtain ⟨h1, _, _, h4, _, h6, _⟩ := haside.frame
    refine .inr ⟨h1.trans hp, ⟨⟨fun _ => rfl, fun _ => rfl⟩, fun e => hawake (Option.some.inj e), fun _ => h4⟩, ?_, fun hkeys => ?_⟩
    · show ({ s with heldPowerEnter := false } : State).lowPowerLockOn.engine.job = none
      rw [h6]
      exact hj
    · exact haside.noKeys (hk (by
        show s.sessionAccess.holdsKeys = false
        rw [hsession]
        exact hkeys))

theorem State.Lawful.withdraw {p : Power} {s : State} (h : s.Lawful p) : ({ s with heldPowerEnter := false } : State).Lawful p := by
  obtain ⟨hiff, hne, _⟩ := h.dormant
  rcases h with ⟨⟨hp, _, hk, hs, he⟩, hv⟩ | ⟨hp, _, hj, hk⟩
  · exact .inl ⟨⟨hp, ⟨hiff, hne, fun _ => rfl⟩, hk, hs, he⟩, hv⟩
  · exact .inr ⟨hp, ⟨hiff, hne, fun _ => rfl⟩, hj, hk⟩

/-- A POWER ENTER is held outside DORMANT. -/
theorem State.Lawful.hold {p : Power} {s : State} (h : s.Lawful p) (ha : s.access ≠ .dormant) :
    ({ s with heldPowerEnter := true } : State).Lawful p := by
  obtain ⟨hiff, hne, _⟩ := h.dormant
  rcases h with ⟨⟨hp, _, hk, hs, he⟩, hv⟩ | ⟨hp, _, hj, hk⟩
  · exact .inl ⟨⟨hp, ⟨hiff, hne, fun h' => absurd h' ha⟩, hk, hs, he⟩, hv⟩
  · exact .inr ⟨hp, ⟨hiff, hne, fun h' => absurd h' ha⟩, hj, hk⟩

theorem State.Lawful.takeNotice {p : Power} {s : State} (h : s.Lawful p) (n : Notice) : (s.takeNotice n).Lawful p := by
  cases n with
  | linkReset =>
    show s.takeLinkReset.Lawful p
    unfold State.takeLinkReset
    split
    · rename_i hd
      exact (h.wake hd).resetLink
    · exact h.resetLink
  | powerEnter =>
    show s.takePowerEnter.Lawful p
    unfold State.takePowerEnter
    split
    · exact h
    · split
      · exact h
      · exact h
      · exact h
      all_goals exact h.hold (by simp_all)
  | powerExit =>
    show s.takePowerExit.Lawful p
    unfold State.takePowerExit
    split
    · exact h.withdraw
    · split
      · rename_i hd
        exact h.wake hd
      · exact h

theorem State.Lawful.takeCapsule {p : Power} {s : State} (h : s.Lawful p) (c : Capsule) : (s.takeCapsule c).Lawful p := by
  have htagged : (s.takeTagged c).Lawful p := by
    unfold State.takeTagged
    split
    · exact h
    · split
      · unfold State.admitCapsule
        split
        · unfold State.admitControl
          split
          · exact h
          · split <;> exact h
        · exact h.aside ((State.Aside.refl s).admitData _ _ _)
        · exact h
        · exact h
      all_goals exact h
  unfold State.takeCapsule
  split
  · exact h.takeNotice _
  all_goals exact htagged

/-! ## Follow-ups -/

theorem State.Lawful.takeData {p : Power} {s t : State} (h : s.Lawful p) (ht : s.takeData = some t) : t.Lawful p := by
  unfold State.takeData at ht
  split at ht
  · rename_i d ds _
    obtain rfl := Option.some.inj ht
    exact State.Lawful.aside (s := { s with dataLane := ds }) h ((State.Aside.refl _).takeSector d)
  · cases ht

theorem State.Lawful.takeHead {p : Power} {s t : State} (h : s.Lawful p) (ht : s.takeHead = some t) : t.Lawful p := by
  unfold State.takeHead at ht
  split at ht
  · rename_i c cs _
    split at ht
    · cases ht
    · obtain rfl := Option.some.inj ht
      exact State.Lawful.takeCapsule (s := { s with lane := cs }) h c
  · cases ht

/-- Everything a follow-up can be: the end of a hold, the next request in service, a POWER ENTER applied, or a lane taken from;
the first and the last two possibly after a free value has been drawn. -/
theorem State.settleStep_cases {s t : State} (h : s.settleStep = some t) :
    ∃ u, (u = s ∨ u = s.drawn) ∧
      ((u.channelReady = true ∧ t = u.proceed) ∨ (u.heldPowerEnter = true ∧ t = u.applyPowerEnter) ∨
        (s.channelReady = false ∧ s.serveNext = some t) ∨
        (s.channelReady = false ∧ s.serveNext = none ∧ (u.takeData = some t ∨ u.takeHead = some t))) := by
  unfold State.settleStep at h
  split at h
  · rename_i hr
    split at h
    · rename_i hp
      obtain rfl := Option.some.inj h
      exact ⟨s.drawn, .inr rfl, .inr (.inl ⟨by simp_all [State.powerEnterReady], rfl⟩)⟩
    · split at h
      · obtain rfl := Option.some.inj h
        exact ⟨s.drawn, .inr rfl, .inl ⟨hr, rfl⟩⟩
      · obtain rfl := Option.some.inj h
        exact ⟨s, .inl rfl, .inl ⟨hr, rfl⟩⟩
  · rename_i hr
    rw [Bool.not_eq_true] at hr
    cases hserve : s.serveNext with
    | some u =>
      simp only [hserve, HOrElse.hOrElse, OrElse.orElse, Option.orElse] at h
      exact ⟨s, .inl rfl, .inr (.inr (.inl ⟨hr, h⟩))⟩
    | none =>
      cases henter : s.enterIfReady with
      | some u =>
        simp only [hserve, henter, HOrElse.hOrElse, OrElse.orElse, Option.orElse] at h
        obtain rfl := Option.some.inj h
        unfold State.enterIfReady at henter
        split at henter
        · obtain rfl := Option.some.inj henter
          exact ⟨s, .inl rfl, .inr (.inl ⟨by simp_all [State.powerEnterReady], rfl⟩)⟩
        · cases henter
      | none =>
        simp only [hserve, henter, HOrElse.hOrElse, OrElse.orElse, Option.orElse] at h
        unfold State.takeFromLanes at h
        split at h
        · split at h
          · split at h
            · exact ⟨s.drawn, .inr rfl, .inr (.inr (.inr ⟨hr, rfl, .inl h⟩))⟩
            · exact ⟨s.drawn, .inr rfl, .inr (.inr (.inr ⟨hr, rfl, .inr h⟩))⟩
          · cases hd : s.takeData with
            | some u =>
              simp only [hd, HOrElse.hOrElse, OrElse.orElse, Option.orElse] at h
              exact ⟨s, .inl rfl, .inr (.inr (.inr ⟨hr, rfl, .inl (hd.trans h)⟩))⟩
            | none =>
              simp only [hd, HOrElse.hOrElse, OrElse.orElse, Option.orElse] at h
              exact ⟨s, .inl rfl, .inr (.inr (.inr ⟨hr, rfl, .inr h⟩))⟩
        · cases h

theorem State.Lawful.settleStep {p : Power} {s t : State} (h : s.Lawful p) (ht : s.settleStep = some t) : t.Lawful p := by
  obtain ⟨u, hu, hcases⟩ := State.settleStep_cases ht
  have hlaw : u.Lawful p := by rcases hu with rfl | rfl <;> exact h
  rcases hcases with ⟨hr, rfl⟩ | ⟨hheld, rfl⟩ | ⟨_, hserve⟩ | ⟨_, _, hdata | hhead⟩
  · unfold State.proceed
    split
    · rename_i hready
      exact hlaw.completeSessionEnd hready
    · exact hlaw.endHold
  · exact hlaw.applyPowerEnter hheld
  · unfold State.serveNext at hserve
    split at hserve
    · rename_i q qs _ _
      obtain rfl := Option.some.inj hserve
      exact State.Lawful.enterService (s := { s with queue := qs }) h q
    · cases hserve
  · exact hlaw.takeData hdata
  · exact hlaw.takeHead hhead

/-- Before the last step of the power-up sequence nothing follows an event. -/
theorem State.Starting.settleStep {s : State} (h : s.Starting) : s.settleStep = none := by
  obtain ⟨hp, _, hlaw⟩ := h
  obtain ⟨_, hservice, hqueue, hend, hheld, _⟩ := hlaw hp
  simp [State.settleStep, State.channelReady, State.sessionEndReady, State.holdReady, State.serviceStage, hservice, hend,
    State.serveNext, hqueue, State.enterIfReady, State.powerEnterReady, hheld, State.takeFromLanes, State.lanesTake, hp]

/-- A law that every follow-up keeps holds after all of them. -/
theorem State.settle_keeps {P : State → Prop} (hstep : ∀ s t : State, P s → s.settleStep = some t → P t) {s : State} (h : P s) :
    P s.settle := by
  have hn : ∀ (n : Nat) (s : State), P s → P (settleN n s) := by
    intro n
    induction n with
    | zero => exact fun _ hs => hs
    | succ n ih =>
      intro s hs
      unfold settleN
      split
      · rename_i t ht
        exact ih t (hstep s t hs ht)
      · exact hs
  exact hn _ s h

theorem State.KeyKept.settle {s : State} (h : s.KeyKept) : s.settle.KeyKept :=
  State.settle_keeps (P := State.KeyKept) (fun s t hs ht => by
    rcases hs with hs | hs
    · rw [hs.settleStep] at ht
      cases ht
    · exact .inr (hs.settleStep ht)) h

/-! ## Events -/

theorem State.KeyKept.follow {s : State} (h : s.KeyKept) {f : State → State} (hf : (f s).KeyKept) : (s.follow f).KeyKept := by
  unfold State.follow
  split
  · exact h
  · exact hf.settle

theorem State.KeyKept.handedOut {s : State} (h : s.KeyKept) : s.handedOut.KeyKept := by
  unfold State.handedOut
  split
  · rename_i howes
    rcases h with ⟨hp, hd, hlaw⟩ | h
    · rw [State.owesAnswer_of_service (hlaw hp).2.1] at howes
      cases howes
    · exact State.KeyKept.follow (.inr h) (.inr h.endHold)
  · exact h

/-- An event keeps the key law when its effect does. -/
theorem State.KeyKept.event {s : State} (h : s.KeyKept) {f : State → State} (hf : ∀ u : State, u.KeyKept → (f u).KeyKept) :
    (s.event f).KeyKept := h.handedOut.follow (hf _ h.handedOut)

theorem State.KeyKept.offer {s : State} (h : s.KeyKept) (c : Capsule) : (s.offer c).KeyKept := h.event fun _ hu => hu

theorem State.KeyKept.takeCompletion {s : State} (h : s.KeyKept) (n : Nat) (c : Byte) (x : Sector) :
    (s.takeCompletion n c x).KeyKept := by
  have hremoved : ({ s with outstanding := removeNat n s.outstanding } : State).KeyKept := h
  unfold State.takeCompletion State.routeCompletion
  split
  · split
    · rcases hremoved with hs | hl
      · have hsame : ({ s with outstanding := removeNat n s.outstanding } : State).stepCompletion n (backEndStatus c) =
            { s with outstanding := removeNat n s.outstanding } := by
          obtain ⟨hp, _, hlaw⟩ := hs
          obtain ⟨_, _, _, _, _, _, _, hsanitize, _⟩ := hlaw hp
          unfold State.stepCompletion
          rw [hsanitize]
          split
          · rename_i hno
            cases hno
          · rfl
        rw [hsame]
        exact .inl hs
      · exact .inr (hl.stepCompletion _ _)
    · split
      · exact hremoved.aside ((State.Aside.refl _).segmentCompletion _ _ _ _)
      · exact hremoved
  · exact h

/-- A failed SELF TEST holds no key (R140). -/
theorem State.Lawful.selfTestFailed {p : Power} {s : State} (h : s.Lawful p) : s.selfTestFailed.Lawful p := by
  have hp : s.power = p := by rcases h with ⟨⟨hp, _⟩, _⟩ | ⟨hp, _⟩ <;> exact hp
  have hbarred := State.barred_enter (s := { s.emptySlots with sessionEnd := false, latch := false }) hp h.dormant
    (fun r => by
      show (Vector.replicate 16 KeySlot.empty)[r].state = .empty
      simp [KeySlot.empty]) rfl (a := .fault) (.inr rfl)
  exact .inl (State.Barred.answer (s := { s.emptySlots with sessionEnd := false, latch := false }.enterFault .selfTest)
    hbarred _ _)

/-! ## The power-up sequence -/

theorem State.Lawful.lastStep {p : Power} {s : State} (h : s.Lawful p) : s.lastStep.Lawful .running := by
  have hbackoff : (if s.access = .blank ∨ s.access = .locked ∨ s.access = .fault then s.startBackoff else s).Lawful p := by
    split
    · exact h.aside (State.Aside.refl s).startBackoff
    · exact h
  have hpowered : ∀ u : State, u.Lawful p → ({ u with power := .running } : State).Lawful .running := by
    intro u hu
    rcases hu with ⟨⟨_, h1, h2, h3, h4⟩, hv⟩ | ⟨_, h1, h2, h3⟩
    · exact .inl ⟨⟨rfl, h1, h2, h3, h4⟩, hv⟩
    · exact .inr ⟨rfl, h1, h2, h3⟩
  unfold State.lastStep
  extract_lets s1 s2
  have hlast : s2.Lawful .running := hpowered s1 hbackoff
  split
  · exact hlast.applyOpening
  · exact hlast

/-- The sequence ends in FAULT or WIPING without a key, whatever wipe is recorded. -/
theorem State.Starting.barred {s : State} (h : s.Starting) {a : Access} (ha : a = .wiping ∨ a = .fault) :
    (s.enter a).Safe s.power := by
  obtain ⟨hp, hd, hlaw⟩ := h
  obtain ⟨_, hservice, _, hend, _, hno, _⟩ := hlaw hp
  refine ⟨State.barred_enter rfl hd hno hend ha, fun v hv => ?_⟩
  rw [State.enter_service, hservice] at hv
  cases hv

theorem State.Starting.powerUpDecision {s : State} (h : s.Starting) (hp : s.power = .selfTest) :
    s.powerUpDecision.KeyKept := by
  obtain ⟨hne, hd, hlaw⟩ := id h
  obtain ⟨haccess, hservice, hqueue, hend, hheld, hno, hrecorded, hsanitize, _, hscan⟩ := hlaw hne
  obtain ⟨hphase, _, _⟩ := hscan (.inr hp)
  unfold State.powerUpDecision
  split
  · exact .inr (State.Lawful.lastStep (s := s.enterFault .store) (.inl (h.barred (.inr rfl))))
  · split
    · exact .inr (State.Lawful.lastStep (.inl (State.Safe.resumeWipe (s := s.enterWiping) (h.barred (.inl rfl)))))
    · rename_i hnone
      have hj := hphase (not_not.mp hnone)
      split
      · exact .inr (State.Lawful.lastStep (.inr (State.idle_reachBlank rfl hd hj hno)))
      · refine .inl ⟨?_, ?_, fun _ => ?_⟩
        · unfold State.absenceStep State.requestWrite
          split <;> nofun
        · unfold State.absenceStep State.requestWrite
          split <;> exact hd
        · unfold State.absenceStep State.requestWrite
          split <;> exact ⟨haccess, hservice, hqueue, hend, hheld, hno, hrecorded, hsanitize, fun _ => hj,
            by rintro (⟨n, h'⟩ | h') <;> cases h'⟩

theorem State.KeyKept.testEnds {s : State} (h : s.KeyKept) (b : Bool) : (s.testEnds b).KeyKept := by
  unfold State.testEnds
  rcases h with h | h
  · split
    · rename_i hp
      split
      · exact h.powerUpDecision hp
      · exact .inr (State.Lawful.lastStep (s := s.enterFault .selfTest) (.inl (h.barred (.inr rfl))))
    · rw [(h.2.2 h.1).2.1]
      exact .inl h
  · have hp : s.power = .running := by rcases h with ⟨⟨hp, _⟩, _⟩ | ⟨hp, _⟩ <;> exact hp
    rw [if_neg (by rw [hp]; decide)]
    split
    · exact .inr h
    · split
      · split
        · exact .inr (h.answer _ _)
        · split
          · exact .inr (h.answer _ _)
          · exact .inr h.selfTestFailed
      · exact .inr h

theorem State.KeyKept.opening {s : State} (h : s.KeyKept) : s.opening.KeyKept := by
  unfold State.opening
  dsimp only
  split
  · rename_i hp
    rcases h with h | h
    · exact absurd hp h.1
    · exact .inr (State.Lawful.applyOpening (s := { s with level := .opened, latched := true }.notify .enclosureOpened) h)
  · exact h

/-! ### Completed record writes -/

/-- Before the part has started a new layout leaves the view as it is. -/
theorem State.Starting.takeLayout {s : State} (h : s.Starting) (l : Layout) :
    s.takeLayout l = { s with copies := { s.copies with layout := l } } := by
  obtain ⟨hp, _, hlaw⟩ := h
  have hstarting := (hlaw hp).1
  exact if_neg (by simp [State.sessionAccess, hstarting])

theorem State.Starting.landWrite {s : State} (h : s.Starting) {w : RecordWrite} (hw : s.writer.current = some w) :
    (s.landWrite w).Starting := by
  obtain ⟨hp, hd, hlaw⟩ := id h
  obtain ⟨g1, g2, g3, g4, g5, g6, g7, g8, g9, g10⟩ := hlaw hp
  have hlanded : ({ s with store := s.store.put w.content, writer := { s.writer with current := none } } : State).Starting :=
    ⟨hp, hd, fun _ => ⟨g1, g2, g3, g4, g5, g6, g7, g8, g9, fun hs => ⟨(g10 hs).1, nofun, (g10 hs).2.2⟩⟩⟩
  unfold State.landWrite State.takeContent
  split
  case h_2 l _ =>
    rw [hlanded.takeLayout]
    exact hlanded
  case h_5 x hx =>
    exact ⟨hp, hd, fun _ => ⟨g1, g2, g3, g4, g5, g6, g7, g8, g9, fun hs =>
      ⟨fun hphase => absurd hphase ((g10 hs).2.1 w hw x hx), nofun, (g10 hs).2.2⟩⟩⟩
  all_goals exact hlanded

theorem State.Starting.sequenceTold {s : State} (h : s.Starting) : s.sequenceTold.KeyKept := by
  obtain ⟨hp, hd, hlaw⟩ := id h
  obtain ⟨g1, g2, g3, g4, g5, g6, g7, g8, g9, g10⟩ := hlaw hp
  unfold State.sequenceTold
  split
  · rename_i n hscan
    have hs := g10 (.inl ⟨n, hscan⟩)
    split
    · exact .inl ⟨nofun, hd, fun _ => ⟨g1, g2, g3, g4, g5, g6, g7, g8, nofun, fun _ => hs⟩⟩
    · exact .inl ⟨nofun, hd, fun _ => ⟨g1, g2, g3, g4, g5, g6, g7, g8, nofun, fun _ => hs⟩⟩
  · rename_i habsence
    have hidle : s.Idle s.power := ⟨rfl, hd, g9 habsence, fun _ => g6⟩
    unfold State.absenceTest
    split
    · exact .inr (hidle.triggered _ _).lastStep
    · exact .inr (State.Lawful.lastStep (s := s.enterLocked)
        (.inr (State.idle_enter rfl hd (g9 habsence) (a := .locked) (by decide) fun _ => g6)))
  all_goals exact .inl h

theorem State.KeyKept.tell {s : State} (h : s.KeyKept) (w : Waiter) : (s.tell w).KeyKept := by
  rcases h with h | h
  · obtain ⟨hp, hd, hlaw⟩ := id h
    obtain ⟨_, hservice, _, _, _, _, hrecorded, _⟩ := hlaw hp
    cases w with
    | channel =>
      show s.channelTold.KeyKept
      unfold State.channelTold
      rw [hservice]
      exact .inl h
    | engine =>
      show s.engineTold.KeyKept
      unfold State.engineTold
      split
      · exact .inl h
      · rename_i j hj
        rw [hrecorded j hj]
        exact .inl h
    | sequence => exact h.sequenceTold
  · cases w with
    | channel => exact .inr h.channelTold
    | engine => exact .inr h.engineTold
    | sequence =>
      have hp : s.power = .running := by rcases h with ⟨⟨hp, _⟩, _⟩ | ⟨hp, _⟩ <;> exact hp
      show s.sequenceTold.KeyKept
      unfold State.sequenceTold
      rw [hp]
      exact .inr h

/-- The next write that begins was in the queue, so it repairs no wipe record to phase NONE. -/
theorem State.KeyKept.writerOn {s : State} (h : s.KeyKept) : s.writerOn.KeyKept := by
  rcases h with ⟨hp, hd, hlaw⟩ | h
  · obtain ⟨g1, g2, g3, g4, g5, g6, g7, g8, g9, g10⟩ := hlaw hp
    refine .inl ⟨hp, hd, fun _ => ⟨g1, g2, g3, g4, g5, g6, g7, g8, g9, fun hs => ?_⟩⟩
    obtain ⟨k1, k2, k3⟩ := g10 hs
    refine ⟨k1, ?_⟩
    show (∀ w ∈ s.writer.beginNext.current, _) ∧ ∀ w ∈ s.writer.beginNext.queue, _
    unfold Writer.beginNext
    split
    · rename_i q qs _ hq
      rw [hq] at k3
      exact ⟨fun w hw => k3 w (by rw [Option.mem_some_iff.mp hw]; exact List.mem_cons_self),
        fun w hw => k3 w (List.mem_cons_of_mem _ hw)⟩
    · exact ⟨k2, k3⟩
  · exact .inr h

theorem State.KeyKept.writeCompletes {s : State} (h : s.KeyKept) {w : RecordWrite} (hw : s.writer.current = some w) :
    (s.writeCompletes w).KeyKept := by
  have hlanded : (s.landWrite w).KeyKept := by
    rcases h with h | h
    · exact .inl (h.landWrite hw)
    · exact .inr (State.landWrite_lawful h w)
  have htold : ∀ (ws : List Waiter) (u : State), u.KeyKept → (ws.foldl State.tell u).KeyKept := by
    intro ws
    induction ws with
    | nil => exact fun _ hu => hu
    | cons x xs ih => exact fun u hu => ih _ (hu.tell x)
  exact (htold w.waiters _ hlanded).writerOn

/-! ### Power -/

theorem State.unpowered_noKeys (st : Store) (k : KnownAnswer) (d : Nat) (c : List Instr) : (State.unpowered st k d c).NoKeys :=
  fun r => by
    show (Vector.replicate 16 KeySlot.empty)[r].state = .empty
    simp [KeySlot.empty]

theorem State.unpowered_keyKept (st : Store) (k : KnownAnswer) (d : Nat) (c : List Instr) :
    (State.unpowered st k d c).KeyKept :=
  .inl ⟨nofun, ⟨⟨nofun, nofun⟩, nofun, nofun⟩, fun _ => ⟨rfl, rfl, rfl, rfl, rfl, State.unpowered_noKeys st k d c, nofun, rfl,
    nofun, by rintro (⟨n, h⟩ | h) <;> cases h⟩⟩

/-- The engine holds a wipe after the scan just when the wipe record's copy does (R159, R166). -/
theorem WipeRecord.job_recorded (w : WipeRecord) : (w.phase = .none → w.job = none) ∧ ∀ j ∈ w.job, j.stage = .recorded := by
  unfold WipeRecord.job
  split
  · exact ⟨fun _ => rfl, nofun⟩
  · rename_i h
    exact ⟨fun h' => absurd h' h, fun j hj => by obtain rfl := Option.some.inj hj; rfl⟩

/-- A scan writes no wipe record of phase NONE: its repair is a purge (R93). -/
theorem State.scanStore_writes (s : State) (hw : s.writer = ⟨none, []⟩) :
    (∀ w ∈ s.scanStore.writer.current, ∀ x, w.content = .wipe x → x.phase ≠ .none) ∧
      ∀ w ∈ s.scanStore.writer.queue, ∀ x, w.content = .wipe x → x.phase ≠ .none := by
  have hrepair : wipeTorn s.store = true → (scanCopies s.store).wipe.phase ≠ .none := fun htorn => by
    have hnone : (s.store.wipe.read fun w => w.legal s.store.identity.capacity) = none := Option.isNone_iff_eq_none.mp htorn
    show ((s.store.wipe.read fun w => w.legal s.store.identity.capacity).getD _).phase ≠ .none
    rw [hnone]
    nofun
  unfold State.scanStore State.requestWriteIf State.requestWrite
  cases countersTorn s.store <;> cases htorn : wipeTorn s.store <;>
    simp [hw, joinQueue, hrepair, htorn]

theorem State.powerUp_keyKept (s : State) (level : Level) : (s.powerUp level).KeyKept := by
  let u : State := { State.unpowered s.store s.vector s.draws s.pending with level := level }
  have hframe : ∀ (w : State) (b : Bool) (c : Content) (who : List Waiter), ∃ x, w.requestWriteIf b c who = { w with writer := x } := by
    intro w b c who
    unfold State.requestWriteIf State.requestWrite
    split
    · split <;> exact ⟨_, rfl⟩
    · exact ⟨w.writer, rfl⟩
  have hscan : ∃ x, u.scanStore = { u with
      copies := scanCopies u.store, scan := scanResult u.store, power := .scan (repairCount u.store), writer := x } := by
    unfold State.scanStore
    dsimp only
    obtain ⟨x, hx⟩ := hframe { u with
      copies := scanCopies u.store, scan := scanResult u.store, power := .scan (repairCount u.store) } (countersTorn u.store)
      (.counters (scanCopies u.store).counters) [.sequence]
    obtain ⟨y, hy⟩ := hframe { u with
      copies := scanCopies u.store, scan := scanResult u.store, power := .scan (repairCount u.store), writer := x }
      (wipeTorn u.store) (.wipe (scanCopies u.store).wipe) [.sequence]
    exact ⟨y, by rw [hx, hy]⟩
  have hwrites := u.scanStore_writes rfl
  obtain ⟨x, hx⟩ := hscan
  rw [hx] at hwrites
  have hjob := WipeRecord.job_recorded (scanCopies u.store).wipe
  have hno : u.NoKeys := State.unpowered_noKeys s.store s.vector s.draws s.pending
  have hpower : ∀ p : Power, p ≠ .running → p ≠ .absence → ({ u with
      copies := scanCopies u.store, scan := scanResult u.store, power := p, writer := x
      engine := ⟨(scanCopies u.store).wipe.job, none⟩ } : State).KeyKept := fun p hp ha =>
    .inl ⟨hp, ⟨⟨nofun, nofun⟩, nofun, nofun⟩, fun _ => ⟨rfl, rfl, rfl, rfl, rfl, hno, hjob.2, rfl, fun h => absurd h ha,
      fun _ => ⟨hjob.1, hwrites⟩⟩⟩
  have hpowered : s.powerUp level = { u with
      copies := scanCopies u.store, scan := scanResult u.store
      power := if repairCount s.store = 0 then .selfTest else .scan (repairCount u.store), writer := x
      engine := ⟨(scanCopies u.store).wipe.job, none⟩ } := by
    show (if repairCount s.store = 0 then _ else _) = _
    rw [show ({ State.unpowered s.store s.vector s.draws s.pending with level := level } : State).scanStore = _ from hx]
    split <;> rfl
  rw [hpowered]
  exact hpower _ (by split <;> nofun) (by split <;> nofun)

/-! ## Commands -/

/-- A capsule-lane command but LINK RESET offers its capsule, whatever the state. -/
theorem exec_offer {c : Instr} {cap : Capsule} (h : c.capsule? = some cap) (hl : c ≠ .linkReset) (s : State) :
    exec c s = .next (s.offer cap) := by
  cases c <;> simp only [Instr.capsule?, Option.some.injEq, reduceCtorEq] at h <;> subst h <;>
    first | rfl | exact absurd rfl hl

/-- Every command keeps the key law. -/
theorem exec_keyKept {c : Instr} {s u : State} (h : s.KeyKept) (he : exec c s = .next u) : u.KeyKept := by
  cases hc : c.capsule? with
  | some cap =>
    by_cases hl : c = .linkReset
    · subst hl
      obtain rfl := Host.Outcome.next.inj he
      exact h.follow h
    · rw [exec_offer hc hl] at he
      obtain rfl := Host.Outcome.next.inj he
      exact h.offer cap
  | none =>
    cases c <;> simp only [Instr.capsule?, reduceCtorEq] at hc <;> obtain rfl := Host.Outcome.next.inj he
    case writeDataSector => exact h.event fun _ hu => hu
    case readDataSector => exact h.event fun _ hu => hu.aside ((State.Aside.refl _).takeReadSector _ _ _)
    case readSectorPassedUpstream => exact h.event fun _ hu => hu.aside ((State.Aside.refl _).readSectorPasses _ _)
    case zeroWriteSectorSent => exact h.event fun _ hu => hu.aside ((State.Aside.refl _).zeroSectorGoes _ _)
    case downstreamCompletion => exact h.event fun _ hu => hu.takeCompletion _ _ _
    case storeWriteCompletion =>
      refine h.event fun w hw => ?_
      split
      · rename_i x hx
        exact hw.writeCompletes hx
      · exact hw
    case backoffExpiry =>
      refine h.event fun w hw => ?_
      split <;> exact hw
    case enclosureOpening =>
      refine h.event fun w hw => ?_
      split
      · exact hw.opening
      · exact hw
    case enclosureClosing => exact h.event fun _ hu => hu
    case powerGood =>
      split
      · exact s.powerUp_keyKept _
      · exact h
    case selfTestEnd => exact h.event fun _ hu => hu.testEnds _
    case powerLoss =>
      split
      · exact h
      · exact State.unpowered_keyKept _ _ _ _
    case writeSectorSentDownstream => exact h.event fun _ hu => hu.aside ((State.Aside.refl _).writeSectorGoes _)

theorem State.KeyKept.second {s : State} (h : s.KeyKept) : s.second.KeyKept := by
  have hcounts : ∀ u : State, u.KeyKept → u.countsDown.KeyKept := by
    intro u hu
    unfold State.countsDown
    (repeat' split) <;> exact hu
  exact hcounts _ h.handedOut

end Sys2Proof.Machine

/-- Settles O59: the law splits into that of the power-up sequence, that of a wipe in progress and that of a part with none; every
operation keeps the one that holds, or leads from one to another. The law of the Store Writer is not needed for it. -/
theorem stepKeepsKeyLaw : Obligations.StepKeepsKeyLaw := by
  unfold Obligations.StepKeepsKeyLaw
  intro s u hkeys _ hstep
  rw [State.keyLaw_iff] at hkeys ⊢
  unfold step at hstep
  split at hstep
  · obtain rfl := Host.Outcome.next.inj hstep
    exact hkeys.second
  · rename_i c cs _
    exact exec_keyKept (s := { s with pending := cs }) hkeys hstep

end

section
/-! Proofs/LinkEvents.lean: the control queue behind a request in service (R48, R120, R121), LINK RESET (R53, R69, R123, R178), waking
from DORMANT (R175, R177) and POWER ENTER (R170, R171). What the lane takes at an event, and what then rests, is said once for a part
that is calm, serves a request or holds a POWER ENTER. -/

open Sys2Proof Sys2Proof.Machine

namespace Sys2Proof.Machine

/-! ## What the lane takes and what rests -/

/-- Nothing follows where no hold has ended, no request can enter service and the lanes are empty. -/
theorem State.settleStep_resting {s : State} (hready : s.channelReady = false) (hserve : s.service ≠ none ∨ s.queue = [])
    (henter : s.powerEnterReady = false) (hlane : s.lane = []) (hdata : s.dataLane = []) : s.settleStep = none := by
  have hnext : s.serveNext = none := by
    unfold State.serveNext
    split
    · rename_i hs hq
      rcases hserve with h | h
      · exact absurd hs h
      · rw [hq] at h
        cases h
    · rfl
  simp [State.settleStep, hready, hnext, State.enterIfReady, henter, State.takeFromLanes, State.bothLanes, State.takeData,
    State.takeHead, hlane, hdata]

/-- A capsule that joins empty lanes while nothing else follows is taken at once, unless its tag's entry holds it back (R42). -/
theorem State.settle_queueCapsule {s : State} {c : Capsule} (hready : s.channelReady = false)
    (hserve : s.service ≠ none ∨ s.queue = []) (henter : s.powerEnterReady = false) (htake : s.lanesTake = true)
    (hlane : s.lane = []) (hdata : s.dataLane = []) (hfree : s.blocked c = false) :
    (State.queueCapsule c s).settle = (s.takeCapsule c).settle := by
  have hback : ({ s with lane := [] } : State) = s := by rw [← hlane]
  have hqueued : State.queueCapsule c s = { s with lane := [c] } := by
    unfold State.queueCapsule
    rw [hlane]
    rfl
  have hnext : ({ s with lane := [c] } : State).serveNext = none := by
    unfold State.serveNext
    split
    · rename_i hs hq
      rcases hserve with h | h
      · exact absurd hs h
      · rw [show s.queue = _ from hq] at h
        cases h
    · rfl
  have hhead : ({ s with lane := [c] } : State).takeFromLanes = some (s.takeCapsule c) := by
    rw [State.takeFromLanes_capsule (s := { s with lane := [c] }) htake hdata rfl hfree]
    exact congrArg (fun u => some (State.takeCapsule u c)) hback
  have hready' : ({ s with lane := [c] } : State).channelReady = false := hready
  have henter' : ({ s with lane := [c] } : State).powerEnterReady = false := henter
  rw [hqueued]
  refine State.settle_step ?_
  simp [State.settleStep, hready', hnext, State.enterIfReady, henter', hhead]

theorem State.noneForwarded_iff (s : State) : s.noneForwarded = true ↔ ∀ t : Tag, s.table[t].state ≠ .forwarded := by
  simp [State.noneForwarded, allTags, List.all_eq_true, -Fin.getElem_fin]

/-- An entry that neither was nor becomes FORWARDED does not end a drain. -/
theorem State.noneForwarded_set {s : State} {t : Tag} {e : Entry} (hold : s.table[t].state ≠ .forwarded)
    (hnew : e.state ≠ .forwarded) : ({ s with table := s.table.set t e } : State).noneForwarded = s.noneForwarded := by
  refine Bool.eq_iff_iff.mpr ?_
  rw [State.noneForwarded_iff, State.noneForwarded_iff]
  refine forall_congr' fun u => ?_
  show (s.table.set t e)[u].state ≠ _ ↔ _
  rw [vector_get_set]
  by_cases h : t = u
  · subst h
    simp [hold, hnew, -Fin.getElem_fin]
  · rw [if_neg h]

/-! ## A CONTROL capsule behind a request in service (R48, R120) -/

/-- A tagged capsule on a FREE tag is admitted (R45). -/
theorem State.takeCapsule_free {s : State} {c : Capsule} {t : Tag} (ht : s.FreeTag c.tag t)
    (hk : ∀ n, kindOfByte c.kind ≠ .notice n) : s.takeCapsule c = s.admitCapsule t c := by
  unfold State.takeCapsule
  split
  · exact absurd ‹_› (hk _)
  all_goals
    unfold State.takeTagged
    simp only [tagOf_eq ht.1, ht.2]

theorem State.takeCapsule_control {s : State} {tag : Byte} {t : Tag} (ht : s.FreeTag tag t) (envelope : List Byte) :
    s.takeCapsule (.plain (Kind.code .control) tag envelope) = s.admitControl t envelope := by
  have hkind : kindOfByte (Kind.code .control) = .tagged .control := kindOfByte_code .control
  rw [State.takeCapsule_free (c := .plain (Kind.code .control) tag envelope) ht
    (fun n => by rw [show (Capsule.plain (Kind.code .control) tag envelope).kind = Kind.code .control from rfl, hkind]; nofun)]
  unfold State.admitCapsule
  rw [show (Capsule.plain (Kind.code .control) tag envelope).kind = Kind.code .control from rfl, hkind]
  rfl

theorem State.Serving.offer {s : State} (h : s.Serving) {c : Capsule} (hfree : s.blocked c = false) :
    s.offer c = (s.takeCapsule c).settle := by
  obtain ⟨hpower, hservice, htest, howes, hlane, hdata, hready, henter⟩ := h
  unfold State.offer
  rw [State.event_of_owes howes (by rw [hpower]; decide)]
  exact State.settle_queueCapsule hready (.inl (Option.isSome_iff_ne_none.mp hservice)) henter
    (by simp [State.lanesTake, hpower, htest]) hlane hdata hfree

/-- While a request keeps the service place, a state that differs in the queue, a table entry not FORWARDED and the outbound side
rests too. -/
theorem State.Serving.rests {s : State} (h : s.Serving) {t : Tag} {e : Entry} (hold : s.table[t].state ≠ .forwarded)
    (hnew : e.state ≠ .forwarded) (q : List Waiting) :
    ({ s with queue := q, table := s.table.set t e } : State).settle = { s with queue := q, table := s.table.set t e } := by
  obtain ⟨_, hservice, _, _, hlane, hdata, hready, henter⟩ := h
  have hnone : ({ s with queue := q, table := s.table.set t e } : State).noneForwarded = s.noneForwarded :=
    State.noneForwarded_set hold hnew
  refine State.settle_of_settled (State.settleStep_resting ?_ (.inl (Option.isSome_iff_ne_none.mp hservice)) ?_ hlane hdata)
  · rw [← hready]
    unfold State.channelReady State.holdReady
    rw [hnone]
    rfl
  · rw [← henter]
    unfold State.powerEnterReady
    rw [hnone]
    rfl

theorem State.Serving.completed {s : State} (h : s.Serving) (k : Byte) (t : Tag) (st : Status) :
    (s.completed k t st).settle = s.completed k t st := by
  obtain ⟨_, hservice, _, _, hlane, hdata, hready, henter⟩ := h
  exact State.settle_of_settled
    (State.settleStep_resting hready (.inl (Option.isSome_iff_ne_none.mp hservice)) henter hlane hdata)

/-! ## LINK RESET (R53, R69, R123, R178) -/

/-- A link reset at the Command Table, the latch and the control channel (R16, R53, R123). -/
def State.linkStruck (s : State) : State :=
  { s.afterStrike with queue := [], service := s.service.map fun v => { v with discard := true } }

/-- In BLANK, LOCKED, WIPING and FAULT a link reset does nothing at the session. -/
theorem State.resetLink_plain {s : State} (hend : s.sessionEnd = false)
    (ha : s.access = .blank ∨ s.access = .locked ∨ s.access = .wiping ∨ s.access = .fault) :
    s.resetLink = s.linkStruck.answeredNotice .linkReset .good := by
  unfold State.resetLink
  rw [State.orphanTable_eq]
  unfold State.linkResetSession
  dsimp only
  rw [if_neg (by simp [State.sessionEndReady, State.flushChannel, hend])]
  rcases ha with ha | ha | ha | ha <;> simp only [State.flushChannel, ha] <;> rw [← ha] <;> rfl

theorem State.handover_awake {s : State} (ha : s.access ≠ .dormant) : s.handover.clearLatch =
    { s with access := .opened, view := s.pendingView, pendingView := none, latch := false } := by
  unfold State.handover State.enter
  rw [if_neg ha]
  rfl

/-- In STAGED a link reset hands the pending view over (R14). -/
theorem State.resetLink_staged {s : State} (hend : s.sessionEnd = false) (ha : s.access = .staged) :
    s.resetLink = ({ s.linkStruck with access := .opened, view := s.pendingView, pendingView := none } : State).answeredNotice
      .linkReset .good := by
  unfold State.resetLink
  rw [State.orphanTable_eq]
  unfold State.linkResetSession
  dsimp only
  rw [if_neg (by simp [State.sessionEndReady, State.flushChannel, hend])]
  simp only [State.flushChannel, ha]
  rw [State.handover_awake (by simp)]
  rfl

/-- In OPEN a link reset applies the LINK_RESET lock-on (R69). -/
theorem State.resetLink_opened {s : State} {v : View} (hend : s.sessionEnd = false) (ha : s.access = .opened)
    (hv : s.view = some v) :
    s.resetLink = (s.linkStruck.afterLockOn v LockOn.linkReset).answeredNotice .linkReset .good := by
  unfold State.resetLink
  rw [State.orphanTable_eq]
  unfold State.linkResetSession
  dsimp only
  rw [if_neg (by simp [State.sessionEndReady, State.flushChannel, hend])]
  simp only [State.flushChannel, ha]
  unfold State.linkResetLockOn
  simp only [hv]
  rw [State.lockOn_eq]
  unfold State.linkStruck State.afterStrike
  rw [ha, hv]
  rfl

/-- What a link reset leaves rests, but for an UNLOCK's response that it has taken away: that request leaves the service place
(R14, R123). -/
theorem State.settle_afterReset {w u : State} (hpower : w.power = .running) (hqueue : w.queue = []) (hlane : w.lane = [])
    (hdata : w.dataLane = []) (hend : w.sessionEnd = false) (hheld : w.heldPowerEnter = false)
    (hservice : w.service = none ∧ u = w ∨ (∃ v, w.service = some v ∧ v.stage.awaitsWrite = true ∧ u = w) ∨
      ∃ v f, w.service = some v ∧ v.stage = .answering f ∧ v.discard = true ∧ u = { w with service := none }) :
    w.settle = u := by
  rcases hservice with ⟨hs, rfl⟩ | ⟨v, hs, hawaits, rfl⟩ | ⟨v, f, hs, hg, hd, rfl⟩
  · exact State.settle_calm ⟨hpower, hs, hqueue, hlane, hdata, hend, hheld⟩
  · exact State.settle_serving hs (by cases hg : v.stage <;> simp_all [Stage.awaitsWrite, Stage.holds]) hend hheld hlane hdata
  · have hready : w.channelReady = true := by
      simp [State.channelReady, State.holdReady, State.serviceStage, hs, hg, hd]
    have hends : w.proceed = { w with service := none } := by
      unfold State.proceed
      rw [if_neg (by simp [State.sessionEndReady, hend])]
      unfold State.endHold
      rw [hs]
      dsimp only
      rw [hg]
      dsimp only
      unfold State.answer
      rw [hs]
      dsimp only
      rw [if_pos hd]
    have hstep : w.settleStep = some { w with service := none } := by
      unfold State.settleStep
      rw [if_pos hready, if_neg (by simp [State.powerEnterReady, hheld]), if_neg (by simp [State.powerEnterReady, hheld]), hends]
    rw [State.settle_step hstep]
    exact State.settle_calm ⟨hpower, rfl, hqueue, hlane, hdata, hend, hheld⟩

/-- A LINK RESET outside DORMANT is taken at once, whatever waits to be handed out (R14, R55). -/
theorem exec_linkReset_awake {s : State} (hpower : s.power = .running)
    (hservice : s.service = none ∧ s.queue = [] ∨ ∃ v, s.service = some v ∧
      (v.stage.awaitsWrite = true ∨ ∃ f, v.stage = .answering f ∧ v.discard = false))
    (hlane : s.lane = []) (hdata : s.dataLane = []) (hend : s.sessionEnd = false) (hheld : s.heldPowerEnter = false)
    (hawake : s.access ≠ .dormant) : exec .linkReset s = .next s.resetLink.settle := by
  have hsession : s.sessionEndReady = false := by simp [State.sessionEndReady, hend]
  have hhold : s.holdReady = false ∧ s.testRunning = false := by
    unfold State.holdReady State.testRunning State.serviceStage
    rcases hservice with ⟨hs, _⟩ | ⟨v, hs, hawaits | ⟨f, hg, hd⟩⟩
    · simp [hs, hpower]
    · cases hg : v.stage <;> simp_all [Stage.awaitsWrite]
    · simp [hs, hg, hd, hpower]
  have htaken : s.takeCapsule (.plain (Notice.code .linkReset) 0 []) = s.resetLink := by
    rw [s.takeCapsule_notice]
    exact if_neg hawake
  show Host.Outcome.next (s.follow _) = _
  unfold State.follow
  rw [if_neg (by rw [hpower]; decide), State.settle_queueCapsule (by simp [State.channelReady, hsession, hhold.1])
    (by rcases hservice with ⟨_, hq⟩ | ⟨v, hs, _⟩
        · exact .inr hq
        · exact .inl (by rw [hs]; nofun))
    (by simp [State.powerEnterReady, hheld]) (by simp [State.lanesTake, hpower, hhold.2]) hlane hdata (s.blocked_notice .linkReset),
    htaken]

/-! ## Waking (R161, R175, R177) -/

/-- A state that differs from `s` in what the Wipe Engine alone moves. -/
def State.EngineMoved (s u : State) : Prop :=
  ∃ e w o d n, u = { s with engine := e, writer := w, outstanding := o, downstream := d, draws := n }

theorem State.EngineMoved.refl (s : State) : s.EngineMoved s := ⟨_, _, _, _, _, rfl⟩

theorem State.EngineMoved.trans {s u w : State} (h : s.EngineMoved u) (h' : u.EngineMoved w) : s.EngineMoved w := by
  obtain ⟨_, _, _, _, _, rfl⟩ := h
  obtain ⟨_, _, _, _, _, rfl⟩ := h'
  exact ⟨_, _, _, _, _, rfl⟩

theorem State.engineMoved_requestWrite (s : State) (c : Content) (who : List Waiter) : s.EngineMoved (s.requestWrite c who) := by
  unfold State.requestWrite
  split <;> exact ⟨_, _, _, _, _, rfl⟩

theorem State.engineMoved_engineWrite (s : State) (j : WipeJob) (g : WipeStage) (c : Content) :
    s.EngineMoved (s.engineWrite j g c) :=
  State.EngineMoved.trans ⟨_, _, _, _, _, rfl⟩ (State.engineMoved_requestWrite _ _ _)

theorem State.engineMoved_beginFinish (s : State) (j : WipeJob) : s.EngineMoved (s.beginFinish j) := by
  unfold State.beginFinish
  split
  · exact ⟨_, _, _, _, _, rfl⟩
  · split
    · exact s.engineMoved_engineWrite _ _ _
    · exact State.EngineMoved.trans ⟨_, _, _, _, _, rfl⟩ (s.drawn.engineMoved_engineWrite _ _ _)

theorem State.engineMoved_issueStep (j : WipeJob) (s : State) (n : Nat) : s.EngineMoved (State.issueStep j s n) := by
  unfold State.issueStep
  split
  · exact .refl s
  · split
    · exact ⟨_, _, _, _, _, rfl⟩
    · exact .refl s

theorem State.engineMoved_settleSanitize (s : State) (j : WipeJob) : s.EngineMoved (s.settleSanitize j) := by
  have hadvanced : s.EngineMoved (s.advanceFrontier j) := by
    unfold State.advanceFrontier
    split
    · exact .refl s
    · split
      · exact State.EngineMoved.trans ⟨_, _, _, _, _, rfl⟩ (State.engineMoved_requestWrite _ _ _)
      · exact .refl s
  refine hadvanced.trans ?_
  unfold State.settleSanitize State.endSanitizeIfDone
  split
  · exact .refl _
  · split
    · exact State.engineMoved_beginFinish _ _
    · exact .refl _

theorem State.engineMoved_startSanitize (s : State) (j : WipeJob) (c : Nat) : s.EngineMoved (s.startSanitize j c) := by
  have hfold : ∀ (j : WipeJob) (ns : List Nat) (u : State), u.EngineMoved (ns.foldl (State.issueStep j) u) := by
    intro j ns
    induction ns with
    | nil => exact fun u => .refl u
    | cons n ns ih => exact fun u => (State.engineMoved_issueStep j u n).trans (ih _)
  unfold State.startSanitize
  split
  · exact ⟨_, _, _, _, _, rfl⟩
  · refine State.EngineMoved.trans ?_ (State.engineMoved_settleSanitize _ _)
    exact State.EngineMoved.trans ⟨_, _, _, _, _, rfl⟩ (hfold _ _ _)

theorem State.engineMoved_wakeEngine (s : State) : s.EngineMoved s.wakeEngine := by
  unfold State.wakeEngine
  split
  · exact .refl s
  · split
    · exact s.engineMoved_startSanitize _ _
    · exact s.engineMoved_beginFinish _
    · exact .refl s

/-- What waking leaves but for the Wipe Engine's part: the resume state, and nothing on the lanes or the channel moved (R175). -/
theorem State.wake_moved {s : State} {a : Access} (hr : s.resume = some a) :
    ({ s with access := a, resume := none } : State).EngineMoved s.wake := by
  unfold State.wake
  rw [hr]
  dsimp only [Option.getD]
  refine State.EngineMoved.trans ?_ ⟨_, _, _, _, _, rfl⟩
  split
  · exact State.engineMoved_wakeEngine _
  · exact .refl _

/-- The four steps that start a sanitize at a cursor, where none is clipped (R153, R154). -/
def firstSteps (cursor : Nat) : List SanitizeStep :=
  [⟨cursor, 1024, 64, .issued, false⟩, ⟨cursor + 1024, 1024, 65, .issued, false⟩, ⟨cursor + 2048, 1024, 66, .issued, false⟩,
    ⟨cursor + 3072, 1024, 67, .issued, false⟩]

/-- A sanitize that has sent the first `k` of its first steps (R154). -/
def State.stepsSent (s : State) (j : WipeJob) (cursor k : Nat) : State :=
  { s with
    engine := ⟨some { j with stage := .sanitizing }, some ⟨cursor + 1024 * k, (firstSteps cursor).take k, cursor⟩⟩
    outstanding := [64, 65, 66, 67].take k
    downstream := s.downstream ++ ((firstSteps cursor).take k).map fun p => .command .deallocate p.subTag p.start p.length }

theorem State.issueStep_stepsSent {s : State} {j : WipeJob} {cursor k : Nat} (hx : ¬ (j.keepOwner = true ∧ j.depth = .media))
    (hroom : cursor + 4096 ≤ s.capacity) (hk : k < 4) :
    State.issueStep { j with stage := .sanitizing } (s.stepsSent j cursor k) (64 + k) = s.stepsSent j cursor (k + 1) := by
  have hexcluded : (s.stepsSent j cursor k).excluded { j with stage := .sanitizing } = none := if_neg hx
  have hcapacity : (s.stepsSent j cursor k).capacity = s.capacity := rfl
  have hlength : stepLength s.capacity none (cursor + 1024 * k) = 1024 := by
    unfold stepLength
    dsimp only
    omega
  unfold State.issueStep
  rw [hexcluded, hcapacity]
  simp only [State.stepsSent]
  rw [if_pos (by omega), hlength]
  have hcases : k = 0 ∨ k = 1 ∨ k = 2 ∨ k = 3 := by omega
  rcases hcases with rfl | rfl | rfl | rfl <;>
    simp [firstSteps, State.sendStep, State.sendDown, jumpOver, insertNat, Nat.add_assoc]

/-- A sanitize with no excluded range that has four whole steps before it sends them from its cursor (R154, R159). -/
theorem State.startSanitize_four {s : State} {j : WipeJob} {cursor : Nat} (hawake : s.access ≠ .dormant)
    (hx : ¬ (j.keepOwner = true ∧ j.depth = .media)) (hroom : cursor + 4096 ≤ s.capacity) (hout : s.outstanding = []) :
    s.startSanitize j cursor = s.stepsSent j cursor 4 := by
  have hsent := fun k (hk : k < 4) => State.issueStep_stepsSent (s := s) hx hroom hk
  have hfirst : ({ s with engine := ⟨some { j with stage := .sanitizing }, some ⟨cursor, [], cursor⟩⟩ } : State) =
      s.stepsSent j cursor 0 := by
    simp [State.stepsSent, ← hout]
  have hreached : Sanitize.reached ⟨cursor + 1024 * 4, (firstSteps cursor).take 4, cursor⟩ = cursor := by
    simp [Sanitize.reached, Sanitize.issuedStarts, firstSteps]
  unfold State.startSanitize
  rw [if_neg hawake]
  dsimp only
  rw [show s.excluded j = none from if_neg hx]
  unfold sanitizeSubTags
  simp only [List.foldl_cons, List.foldl_nil, jumpOver]
  rw [hfirst, hsent 0 (by omega), hsent 1 (by omega), hsent 2 (by omega), hsent 3 (by omega)]
  have hfrontier : (s.stepsSent j cursor 4).advanceFrontier { j with stage := .sanitizing } = s.stepsSent j cursor 4 := by
    show (if cursor < Sanitize.reached ⟨cursor + 1024 * 4, (firstSteps cursor).take 4, cursor⟩ then _ else _) = _
    rw [hreached, if_neg (lt_irrefl _)]
  unfold State.settleSanitize
  rw [hfrontier]
  show (if _ ∧ Sanitize.issuedStarts ⟨cursor + 1024 * 4, (firstSteps cursor).take 4, cursor⟩ = [] then _ else _) = _
  rw [if_neg (by simp [Sanitize.issuedStarts, firstSteps])]

theorem State.wakeEngine_waits {s : State} {j : WipeJob} (hj : s.engine.job = some j) (h1 : j.stage ≠ .sanitizeWait)
    (h2 : j.stage ≠ .finishWait) : s.wakeEngine = s := by
  unfold State.wakeEngine
  rw [hj]
  dsimp only
  split
  · exact absurd ‹_› h1
  · exact absurd ‹_› h2
  · rfl

theorem State.wakeEngine_sanitize {s : State} {j : WipeJob} (hj : s.engine.job = some j) (h : j.stage = .sanitizeWait) :
    s.wakeEngine = s.startSanitize j 0 := by
  unfold State.wakeEngine
  rw [hj]
  dsimp only
  rw [h]

theorem State.wakeEngine_finish {s : State} {j : WipeJob} (hj : s.engine.job = some j) (h : j.stage = .finishWait) :
    s.wakeEngine = s.beginFinish j := by
  unfold State.wakeEngine
  rw [hj]
  dsimp only
  rw [h]

/-- The Wipe Engine's write begins at once when the writer is idle (R87, R89). -/
theorem State.engineWrite_idle {s : State} (hidle : s.writer = ⟨none, []⟩) (j : WipeJob) (g : WipeStage) (c : Content) :
    s.engineWrite j g c = { s with
      engine := ⟨some { j with stage := g }, s.engine.sanitize⟩, writer := ⟨some ⟨c, [.engine]⟩, []⟩ } := by
  unfold State.engineWrite State.requestWrite
  rw [if_pos (by rw [hidle]; exact ⟨rfl, rfl⟩), hidle]

/-- What a wipe that waits does as the part wakes into WIPING (R150, R154, R161). -/
theorem State.wake_wiping {s : State} (hr : s.resume = some .wiping) :
    s.wake = ({ s with access := .wiping, resume := none } : State).wakeEngine.forwardNotice .powerExit := by
  unfold State.wake
  rw [hr]
  rfl

theorem State.wake_plain {s : State} {a : Access} (hr : s.resume = some a) (ha : a ≠ .wiping) :
    s.wake = ({ s with access := a, resume := none } : State).forwardNotice .powerExit := by
  unfold State.wake
  rw [hr]
  dsimp only [Option.getD]
  rw [if_neg ha]

/-- A calm part in DORMANT wakes to a calm part in its resume state. -/
theorem State.Calm.wake {s : State} (h : s.Calm) {a : Access} (hr : s.resume = some a) : s.wake.Calm ∧ s.wake.access = a := by
  obtain ⟨_, _, _, _, _, hmoved⟩ := State.wake_moved hr
  rw [hmoved]
  exact ⟨h, rfl⟩

theorem exec_powerExit_dormant {s : State} (h : s.Calm) (hd : s.access = .dormant) {a : Access} (hr : s.resume = some a) :
    exec .powerExit s = .next (s.wake.acknowledged .powerExit .good) := by
  have htaken : s.takePowerExit = s.wake.acknowledged .powerExit .good := by
    unfold State.takePowerExit
    rw [if_neg (by rw [h.held]; decide), if_pos hd]
    rfl
  refine congrArg Host.Outcome.next ((State.offer_notice h .powerExit).trans ?_)
  show s.takePowerExit.settle = _
  rw [htaken]
  exact State.settle_calm (h.wake hr).1

/-! ## POWER ENTER (R170, R171) -/

theorem State.Calm.asDormant {s : State} (h : s.Calm) (a : Access) : (s.asDormant a).Calm := h

theorem State.Calm.afterLockOn {s : State} (h : s.Calm) (v : View) (f : LockOn → Bool) : (s.afterLockOn v f).Calm := by
  unfold State.afterLockOn
  exact h

/-- A POWER ENTER is refused in WIPING and FAULT at the end of its hold (R170). -/
theorem State.applyPowerEnter_refused {u w : State} (hw : w = { u with heldPowerEnter := false }) {st : Status}
    (h : (u.access = .wiping ∧ st = .wiped) ∨ (u.access = .fault ∧ st = .fault)) :
    u.applyPowerEnter = w.acknowledged .powerEnter st := by
  subst hw
  unfold State.applyPowerEnter
  rcases h with ⟨ha, rfl⟩ | ⟨ha, rfl⟩ <;> simp only [ha] <;> rw [← ha] <;> rfl

/-- In BLANK and LOCKED no lock-on precedes DORMANT (R70, R171). -/
theorem State.applyPowerEnter_plain {u w : State} (hw : w = { u with heldPowerEnter := false })
    (h : u.access = .blank ∨ u.access = .locked) : u.applyPowerEnter = w.asDormant u.access := by
  have hlock : w.lowPowerLockOn = w := by
    subst hw
    unfold State.lowPowerLockOn State.sessionAccess
    rcases h with h | h <;> simp [h]
  unfold State.applyPowerEnter
  rw [← hw]
  dsimp only
  rw [hlock]
  rcases h with h | h <;> rw [h] <;> rfl

/-- In OPEN and STAGED the LOW_POWER lock-on precedes DORMANT (R70, R171). -/
theorem State.applyPowerEnter_session {u w : State} (hw : w = { u with heldPowerEnter := false }) {v : View}
    (h : (u.access = .opened ∧ u.view = some v) ∨ (u.access = .staged ∧ u.pendingView = some v)) :
    u.applyPowerEnter = (w.afterLockOn v LockOn.lowPower).asDormant u.access := by
  have hlock : w.lowPowerLockOn = w.afterLockOn v LockOn.lowPower := by
    subst hw
    rw [← State.lockOn_eq]
    unfold State.lowPowerLockOn State.sessionView State.sessionAccess
    rcases h with ⟨h1, h2⟩ | ⟨h1, h2⟩ <;> simp [h1, h2]
  unfold State.applyPowerEnter
  rw [← hw]
  dsimp only
  rw [hlock]
  rcases h with ⟨h, _⟩ | ⟨h, _⟩ <;> rw [h] <;> rfl

/-- A POWER ENTER whose hold has ended is applied before anything else follows (R170). -/
theorem State.settle_powerEnter {u : State} (hcalm : ({ u with heldPowerEnter := false } : State).Calm)
    (hheld : u.heldPowerEnter = true) (hnone : u.noneForwarded = true) (happlied : u.applyPowerEnter.Calm) :
    u.settle = u.applyPowerEnter := by
  obtain ⟨hpower, hservice, hqueue, _, _, hend, _⟩ := hcalm
  have hservice : u.service = none := hservice
  have hready : u.channelReady = false := by
    simp [State.channelReady, State.sessionEndReady, State.holdReady, State.serviceStage, hservice, show u.sessionEnd = false from hend]
  have hpower : u.power = .running := hpower
  have henter : u.powerEnterReady = true := by
    simp [State.powerEnterReady, hheld, hnone, State.testRunning, State.serviceStage, hservice, hpower]
  have hnext : u.serveNext = none := by simp [State.serveNext, hservice, show u.queue = [] from hqueue]
  have hstep : u.settleStep = some u.applyPowerEnter := by
    simp [State.settleStep, hready, hnext, State.enterIfReady, henter]
  rw [State.settle_step hstep]
  exact State.settle_calm happlied

/-- The end of the hold of a POWER ENTER, by the access state it finds (R170, R171). -/
theorem State.settle_holdEnds {u w : State} (hw : w = { u with heldPowerEnter := false }) (hcalm : w.Calm)
    (hheld : u.heldPowerEnter = true) (hnone : u.noneForwarded = true) :
    (u.access = .blank ∨ u.access = .locked → u.settle = w.asDormant u.access) ∧
    (∀ v, (u.access = .opened ∧ u.view = some v) ∨ (u.access = .staged ∧ u.pendingView = some v) →
      u.settle = (w.afterLockOn v LockOn.lowPower).asDormant u.access) ∧
    ∀ st, (u.access = .wiping ∧ st = .wiped) ∨ (u.access = .fault ∧ st = .fault) → u.settle = w.acknowledged .powerEnter st := by
  have hsettled := fun h => State.settle_powerEnter (u := u) (by rw [← hw]; exact hcalm) hheld hnone h
  refine ⟨fun h => ?_, fun v h => ?_, fun st h => ?_⟩
  · have happlied := State.applyPowerEnter_plain hw h
    exact (hsettled (by rw [happlied]; exact hcalm.asDormant _)).trans happlied
  · have happlied := State.applyPowerEnter_session hw h
    exact (hsettled (by rw [happlied]; exact (hcalm.afterLockOn v _).asDormant _)).trans happlied
  · have happlied := State.applyPowerEnter_refused hw h
    exact (hsettled (by rw [happlied]; exact hcalm)).trans happlied

end Sys2Proof.Machine

/-- Settles O12: a part that serves takes the capsule at once and then rests; where the service place is empty a waiting request is
the next follow-up. -/
theorem controlWaitsOrIsBusy : Obligations.ControlWaitsOrIsBusy := by
  unfold Obligations.ControlWaitsOrIsBusy
  refine ⟨fun s tag t envelope hfree => ⟨fun hserving hawake => ?_, fun hd hrest => ?_⟩, ?empties, ?next, ?alone⟩
  · have htaken : exec (.control tag envelope) s = .next (s.admitControl t envelope).settle := by
      refine congrArg Host.Outcome.next ?_
      rw [hserving.offer (State.blocked_free (c := .plain (Kind.code .control) tag envelope) hfree),
        State.takeCapsule_control hfree]
    have hservice : s.service.isSome = true := hserving.2.1
    have hnotForwarded : s.table[t].state ≠ .forwarded := by rw [hfree.2]; decide
    constructor
    · intro hroom
      rw [htaken]
      unfold State.admitControl
      rw [if_neg hawake, if_neg (by omega)]
      exact congrArg Host.Outcome.next (hserving.rests hnotForwarded (by decide) _)
    · intro hfull
      rw [htaken]
      unfold State.admitControl
      rw [if_neg hawake, if_pos ⟨hservice, hfull⟩]
      exact congrArg Host.Outcome.next (hserving.completed _ t .busy)
  · have hrefused : s.admitControl t envelope = s.completed (Kind.code .control) t .dormant := if_pos hd
    refine congrArg Host.Outcome.next ?_
    have hblocked := State.blocked_free (c := .plain (Kind.code .control) tag envelope) hfree
    rcases hrest with hcalm | hserving
    · rw [State.offer_calm hcalm _ hblocked, State.takeCapsule_control hfree, hrefused]
      exact State.settle_calm hcalm
    · rw [hserving.offer hblocked, State.takeCapsule_control hfree, hrefused]
      exact hserving.completed _ t .dormant
  case next =>
    intro s q qs hs hq hready
    have hnext : s.serveNext = some (({ s with queue := qs } : State).enterService q) := by simp [State.serveNext, hs, hq]
    simp [State.settleStep, hready, hnext]
  case empties =>
    intro s hsettled hs
    cases hq : s.queue with
    | nil => rfl
    | cons q qs =>
      have hnext : s.serveNext = some (({ s with queue := qs } : State).enterService q) := by simp [State.serveNext, hs, hq]
      unfold State.settleStep at hsettled
      split at hsettled
      · (repeat' split at hsettled) <;> cases hsettled
      · simp [hnext] at hsettled
  case alone =>
    intro s v f p tag t envelope hbusy hstage hwriter hawake htag hne hentry hqueue
    obtain ⟨hpower, hservice, hdiscard, hstruck, hlane, hdata, hend, hheld⟩ := hbusy
    let w : State := { (s.withPolicy p).answered v.tag .good v.code f with
      service := none, writer := ⟨none, []⟩, queue := [], table := (s.table.set v.tag Entry.free).set t Entry.free }
    have hcalm : w.Calm := ⟨hpower, rfl, rfl, hlane, hdata, hend, hheld⟩
    have hfree : w.FreeTag tag t := ⟨htag, by
      show ((s.table.set v.tag Entry.free).set t Entry.free)[t].state = .free
      rw [vector_set_get]
      rfl⟩
    let a : State := { (s.withPolicy p).answered v.tag .good v.code f with service := none, writer := ⟨none, []⟩ }
    have htold : ((s.landWrite ⟨.policy p, [.channel]⟩).channelTold).writerOn = a := by
      have hland : s.landWrite ⟨.policy p, [.channel]⟩ = { s.withPolicy p with writer := ⟨none, []⟩ } := by
        unfold State.landWrite State.takeContent
        rw [hwriter]
        rfl
      rw [hland]
      unfold State.channelTold
      have hv : ({ s.withPolicy p with writer := ⟨none, []⟩ } : State).service = some v := hservice
      rw [hv]
      dsimp only
      rw [if_neg (by rw [hstruck]; decide), hstage]
      dsimp only
      rw [State.answer_eq hv hdiscard]
      rfl
    have hnext : a.settleStep = some (({ a with queue := [] } : State).enterService ⟨t, envelope.length, envelope.take 1024⟩) := by
      have hready : a.channelReady = false := by
        simp [State.channelReady, State.sessionEndReady, State.holdReady, State.serviceStage, a, State.answered, State.withPolicy, hend]
      have hserve : a.serveNext = some (({ a with queue := [] } : State).enterService ⟨t, envelope.length, envelope.take 1024⟩) := by
        unfold State.serveNext
        rw [show a.queue = _ from hqueue]
      simp [State.settleStep, hready, hserve]
    have hsame : w.setEntry t Entry.ofControl = { a with queue := [] } := by
      have htable : ((s.table.set v.tag Entry.free).set t Entry.free).set t Entry.ofControl = s.table.set v.tag Entry.free := by
        rw [Vector.set_set]
        refine vector_ext fun i => ?_
        rw [vector_get_set, vector_get_set]
        by_cases hi : t = i
        · subst hi
          rw [if_pos rfl, if_neg (Ne.symm hne), hentry]
        · rw [if_neg hi]
      show ({ w with table := _ } : State) = _
      rw [htable]
      rfl
    have howes : s.owesAnswer = false := by simp [State.owesAnswer, State.serviceStage, hservice, hstage]
    rw [exec_channelWrite hpower howes hwriter, htold, State.settle_step hnext]
    show _ = Host.Outcome.next (w.offer (.plain (Kind.code .control) tag envelope))
    rw [State.offer_control hcalm hfree hawake, hsame]
    rfl

/-- Settles O22: the reset strikes the table and the channel, then acts at the session by the access state; what follows is at most
the end of an UNLOCK whose response it has taken away. -/
theorem linkResetActs : Obligations.LinkResetActs := by
  unfold Obligations.LinkResetActs
  refine ⟨fun s u hcase => ?reset, ?discards⟩
  case reset =>
    have hfacts : s.power = .running ∧ s.lane = [] ∧ s.dataLane = [] ∧ s.sessionEnd = false ∧ s.heldPowerEnter = false ∧
        (s.service = none ∧ s.queue = [] ∨ ∃ v, s.service = some v ∧
          (v.stage.awaitsWrite = true ∨ ∃ f, v.stage = .answering f ∧ v.discard = false)) := by
      rcases hcase with ⟨hcalm, _⟩ | ⟨v, hp, hs, hg, hl, hd, he, hh, _⟩ | ⟨v, f, hp, hs, hg, hdis, hl, hd, he, hh, _⟩
      · exact ⟨hcalm.power, hcalm.lane, hcalm.dataLane, hcalm.sessionEnd, hcalm.held, .inl ⟨hcalm.service, hcalm.queue⟩⟩
      · exact ⟨hp, hl, hd, he, hh, .inr ⟨v, hs, .inl hg⟩⟩
      · exact ⟨hp, hl, hd, he, hh, .inr ⟨v, hs, .inr ⟨f, hg, hdis⟩⟩⟩
    obtain ⟨hpower, hlane, hdata, hend, hheld, hservice⟩ := hfacts
    have hu : u = { s.linkStruck with service := u.service } := by
      rcases hcase with ⟨hcalm, rfl⟩ | ⟨v, _, hs, _, _, _, _, _, rfl⟩ | ⟨v, f, _, hs, _, _, _, _, _, _, rfl⟩
      · show s.afterStrike = { s.afterStrike with queue := [], service := s.service }
        rw [← hcalm.queue]
        rfl
      · rfl
      · rfl
    have hsettled : ∀ w : State, w.power = .running → w.queue = [] → w.lane = [] → w.dataLane = [] → w.sessionEnd = false →
        w.heldPowerEnter = false → w.service = s.linkStruck.service → w.settle = { w with service := u.service } := by
      intro w h1 h2 h3 h4 h5 h6 hw
      refine State.settle_afterReset h1 h2 h3 h4 h5 h6 ?_
      rcases hcase with ⟨hcalm, rfl⟩ | ⟨v, _, hs, hg, _, _, _, _, rfl⟩ | ⟨v, f, _, hs, hg, _, _, _, _, _, rfl⟩
      · have hnone : w.service = none := by rw [hw, State.linkStruck, hcalm.service]; rfl
        refine .inl ⟨hnone, ?_⟩
        show ({ w with service := s.service } : State) = w
        rw [hcalm.service, ← hnone]
      · have hsome : w.service = some { v with discard := true } := by rw [hw, State.linkStruck, hs]; rfl
        refine .inr (.inl ⟨_, hsome, hg, ?_⟩)
        show ({ w with service := some { v with discard := true } } : State) = w
        rw [← hsome]
      · have hsome : w.service = some { v with discard := true } := by rw [hw, State.linkStruck, hs]; rfl
        exact .inr (.inr ⟨_, f, hsome, hg, rfl, rfl⟩)
    have htaken := fun ha => exec_linkReset_awake hpower hservice hlane hdata hend hheld ha
    refine ⟨fun ha => ?_, fun ha => ?_, fun v ha hv => ?_⟩
    · rw [htaken (by rcases ha with h | h | h | h <;> rw [h] <;> decide), State.resetLink_plain hend ha,
        hsettled (s.linkStruck.answeredNotice .linkReset .good) hpower rfl hlane hdata hend hheld rfl]
      exact congrArg Host.Outcome.next (congrArg (State.answeredNotice · .linkReset .good) hu.symm)
    · rw [htaken (by rw [ha]; decide), State.resetLink_staged hend ha,
        hsettled (({ s.linkStruck with access := .opened, view := s.pendingView, pendingView := none } : State).answeredNotice
          .linkReset .good) hpower rfl hlane hdata hend hheld rfl, hu]
      rfl
    · rw [htaken (by rw [ha]; decide), State.resetLink_opened hend ha hv,
        hsettled ((s.linkStruck.afterLockOn v LockOn.linkReset).answeredNotice .linkReset .good) hpower rfl hlane hdata hend hheld
          rfl, hu]
      rfl
  case discards =>
    intro s v f p hpower hservice hstage hdiscard hstruck hqueue hlane hdata hend hheld hwriter
    have howes : s.owesAnswer = false := by simp [State.owesAnswer, State.serviceStage, hservice, hstage]
    have htold : ((s.landWrite ⟨.policy p, [.channel]⟩).channelTold).writerOn =
        { s.withPolicy p with service := none, writer := ⟨none, []⟩ } := by
      have hland : s.landWrite ⟨.policy p, [.channel]⟩ = { s.withPolicy p with writer := ⟨none, []⟩ } := by
        unfold State.landWrite State.takeContent
        rw [hwriter]
        rfl
      rw [hland]
      unfold State.channelTold
      have hv : ({ s.withPolicy p with writer := ⟨none, []⟩ } : State).service = some v := hservice
      rw [hv]
      dsimp only
      rw [if_neg (by rw [hstruck]; decide), hstage]
      dsimp only
      unfold State.answer
      rw [hv]
      dsimp only
      rw [if_pos hdiscard]
      rfl
    rw [exec_channelWrite hpower howes hwriter, htold]
    exact congrArg Host.Outcome.next (State.settle_calm ⟨hpower, rfl, hqueue, hlane, hdata, hend, hheld⟩)

/-- Settles O23: POWER EXIT leaves the waking alone, and LINK RESET in DORMANT acts on what the waking leaves. -/
theorem wakesFromDormant : Obligations.WakesFromDormant := by
  unfold Obligations.WakesFromDormant
  intro s a hcalm hd hr ha
  have hexit := exec_powerExit_dormant hcalm hd hr
  refine ⟨fun hw => ?_, ?engine, s.wake, hexit, (hcalm.wake hr).2, ?reset⟩
  · rw [hexit, State.wake_plain hr hw]
    rfl
  case engine =>
    rintro j rfl hj
    let u : State := { s with access := .wiping, resume := none }
    have hu : u.engine.job = some j := hj
    have hwiping : u.access ≠ .dormant := show Access.wiping ≠ .dormant by decide
    have hwiped : exec .powerExit s = .next ((u.wakeEngine.forwardNotice .powerExit).acknowledged .powerExit .good) := by
      rw [hexit, State.wake_wiping hr]
    refine ⟨fun h1 h2 => ?_, fun hstage hx hroom hout => ?_, fun hstage hidle => ⟨fun hkeep => ?_, fun hkeep => ?_⟩⟩
    · rw [hwiped, State.wakeEngine_waits hu h1 h2]
      rfl
    · rw [hwiped, State.wakeEngine_sanitize hu hstage, State.startSanitize_four (s := u) (j := j) (cursor := 0) hwiping hx
        (by rw [Nat.zero_add]; exact hroom) hout]
      simp [State.stepsSent, firstSteps, State.acknowledged, State.forwardNotice, State.sendDown, u]
    · rw [hwiped, State.wakeEngine_finish hu hstage]
      unfold State.beginFinish
      rw [if_neg hwiping, if_pos hkeep]
      unfold State.writeDone
      rw [State.engineWrite_idle (s := u) hidle]
      rfl
    · rw [hwiped, State.wakeEngine_finish hu hstage]
      unfold State.beginFinish
      rw [if_neg hwiping, if_neg (by rw [hkeep]; decide), State.engineWrite_idle (s := u.drawn) hidle]
      rfl
  case reset =>
    obtain ⟨hwake, haccess⟩ := hcalm.wake hr
    have hasleep : exec .linkReset s = .next s.wake.resetLink.settle := by
      rw [exec_capsule (c := .linkReset) rfl (State.owesAnswer_of_service hcalm.service)]
      refine congrArg Host.Outcome.next ((State.offer_notice hcalm .linkReset).trans ?_)
      exact congrArg State.settle (if_pos hd)
    rw [hasleep, exec_linkReset_awake hwake.power (.inl ⟨hwake.service, hwake.queue⟩) hwake.lane hwake.dataLane hwake.sessionEnd
      hwake.held (by rw [haccess]; exact ha)]

/-- Settles O24: the notice is refused, or held; a hold that finds no entry FORWARDED ends at the same event. -/
theorem powerEnterActs : Obligations.PowerEnterActs := by
  unfold Obligations.PowerEnterActs
  intro s
  have hheld : ∀ h : s.Calm, s.InService → exec .powerEnter s = .next ({ s with heldPowerEnter := true } : State).settle := by
    intro h ha
    have htaken : s.takePowerEnter = { s with heldPowerEnter := true } := by
      unfold State.takePowerEnter
      rw [if_neg (by rw [h.held]; decide)]
      rcases ha with ha | ha | ha | ha <;> rw [ha]
    refine congrArg Host.Outcome.next ((State.offer_notice h .powerEnter).trans ?_)
    exact congrArg State.settle htaken
  have hback : s.Calm → s = ({ ({ s with heldPowerEnter := true } : State) with heldPowerEnter := false } : State) := fun h => by
    rw [← h.held]
  refine ⟨fun h hnone => ?applied, fun h hsome ha => ?held, fun st h ha => ?refused, fun h hh hsome => ?again, ?ends⟩
  case applied =>
    obtain ⟨hplain, hsession, _⟩ := State.settle_holdEnds (hback h) h rfl hnone
    refine ⟨fun ha => ?_, fun v ha => ?_⟩
    · rw [hheld h (by
        rcases ha with ha | ha
        · exact .inl ha
        · exact .inr (.inl ha)), hplain ha]
    · rw [hheld h (by
        rcases ha with ⟨ha, _⟩ | ⟨ha, _⟩
        · exact .inr (.inr (.inr ha))
        · exact .inr (.inr (.inl ha))), hsession v ha]
  case held =>
    rw [hheld h ha]
    exact congrArg Host.Outcome.next (State.settle_held (by rw [← hback h]; exact h) hsome)
  case refused =>
    have htaken : s.takePowerEnter = s.acknowledged .powerEnter st := by
      unfold State.takePowerEnter
      rw [if_neg (by rw [h.held]; decide)]
      rcases ha with ⟨ha, rfl⟩ | ⟨ha, rfl⟩ | ⟨ha, rfl⟩ <;> rw [ha] <;> rfl
    refine congrArg Host.Outcome.next ((State.offer_notice h .powerEnter).trans ?_)
    show s.takePowerEnter.settle = _
    rw [htaken]
    exact State.settle_calm h
  case again =>
    have htaken : s.takePowerEnter = s.acknowledged .powerEnter .dormant := if_pos hh
    refine congrArg Host.Outcome.next ((State.offer_notice_held h hsome .powerEnter).trans ?_)
    show s.takePowerEnter.settle = _
    rw [htaken]
    exact State.settle_held (s := s.acknowledged .powerEnter .dormant) h hsome
  case ends =>
    intro subTag code x t g st u h hh hends hu
    have hcompleted := exec_completion_ends (s := s) (x := x) h.power (State.owesAnswer_of_service (s := s) h.service) hends
    have hcalm : u.Calm := by
      rw [hu]
      exact h
    refine ⟨fun hnone => ?_, fun hsome => ?_⟩
    · have hnone' : (s.entryEnded subTag t g st x).noneForwarded = true := by
        rw [hu] at hnone
        exact hnone
      obtain ⟨hplain, hsession, hrefused⟩ := State.settle_holdEnds hu hcalm hh hnone'
      rw [hcompleted]
      exact ⟨fun ha => congrArg Host.Outcome.next (hplain ha), fun v ha => congrArg Host.Outcome.next (hsession v ha),
        fun r ha => congrArg Host.Outcome.next (hrefused r ha)⟩
    · rw [hcompleted]
      refine congrArg Host.Outcome.next (State.settle_held (by rw [← hu]; exact hcalm) ?_)
      rw [hu] at hsome
      exact hsome

end

section
/-! Proofs/OpenRequests.lean: the requests that take no authorization: the reports (R128, R129, R131), TAKE OWNERSHIP (R114), PRESENT
PLATFORM (R113) and SELF TEST (R139, R140). Before them a wipe trigger that finds no entry FORWARDED (R146, R147). -/

open Sys2Proof Sys2Proof.Machine

namespace Sys2Proof.Machine

/-! ## A wipe trigger with no entry FORWARDED (R146, R147) -/

/-- A purge turns FORWARDED entries only (R52). -/
theorem State.abortTable_idle {s : State} (hnone : s.noneForwarded = true) :
    s.abortTable = { s with readHeld := [], writeHeld := [] } := by
  have hkept : ∀ ts : List Tag, ts.foldl State.abortEntry s = s := by
    intro ts
    induction ts with
    | nil => rfl
    | cons t ts ih => rw [List.foldl_cons, State.abortEntry, if_neg ((State.noneForwarded_iff s).mp hnone t), ih]
  unfold State.abortTable
  rw [hkept]
  rfl

theorem State.strikeService_none {s : State} (hservice : s.service = none) : s.strikeService = s := by
  unfold State.strikeService
  rw [hservice]

/-- A purge that finds no request in service and no entry FORWARDED (R68, R146). -/
theorem State.purge_eq {s : State} (hservice : s.service = none) (hnone : s.noneForwarded = true) : s.purge = s.purged := by
  unfold State.purge State.purgeKeys
  rw [State.abortTable_idle hnone, State.strikeService_none (by exact hservice)]
  unfold State.purgeUnit State.enterWiping State.enter State.purged
  by_cases hd : s.access = .dormant
  · rw [if_pos (by exact hd), if_pos hd, if_pos hd, ← hd]
    rfl
  · rw [if_neg (by exact hd), if_neg hd, if_neg hd]
    rfl

/-- A trigger that finds no wipe in progress begins one (R146, R147). -/
theorem State.trigger_begun {s : State} (hservice : s.service = none) (hnone : s.noneForwarded = true)
    (hjob : s.engine.job = none) (hidle : s.writer = ⟨none, []⟩)
    (hfault : ¬ (s.access = .fault ∧ s.faultCause = some .selfTest)) (r : Reason) (d : Depth) :
    s.trigger r d = s.wipeBegun r d s.keepOwner := by
  have hflag : (decide (s.access = .fault) && decide (s.faultCause = some .selfTest)) = false := by
    rw [← Bool.decide_and, decide_eq_false hfault]
  unfold State.trigger
  rw [if_neg (by simp [hjob])]
  dsimp only
  rw [hflag, State.purge_eq hservice hnone, State.engineWrite_idle (s := s.purged) hidle]
  rfl

theorem State.Calm.wipeBegun {s : State} (h : s.Calm) (r : Reason) (d : Depth) (b : Bool) : (s.wipeBegun r d b).Calm :=
  ⟨h.power, h.service, h.queue, h.lane, h.dataLane, rfl, h.held⟩

/-! ## Requests served without a gate -/

/-- The record write of a request in service begins at once when the writer is idle (R87, R89). -/
theorem State.awaitWrite_idle {s : State} (hidle : s.writer = ⟨none, []⟩) (v : Service) (g : Stage) (c : Content) :
    s.awaitWrite v g c = { s with service := some { v with stage := g }, writer := ⟨some ⟨c, [.channel]⟩, []⟩ } := by
  unfold State.awaitWrite State.requestWrite
  rw [if_pos (by
    show s.writer.current = none ∧ s.writer.queue = []
    rw [hidle]
    exact ⟨rfl, rfl⟩)]
  rfl

/-- A request that can be written enters service and is tested at the event of its capsule (R48, R121). -/
theorem State.offer_wellFormed {s : State} (h : s.Calm) {tag : Byte} {t : Tag} (ht : s.FreeTag tag t)
    (hawake : s.access ≠ .dormant) {auth : AuthBlock} {slot : Option SlotIndex} {r : Request}
    (hslot : blockSlot auth.slot = some slot) (hwf : r.wellFormed = true) :
    s.offer (.request tag auth r) =
      ((s.entered t ⟨r, slot.map fun i => (i, auth.secret)⟩).testRequest
        (Service.entered s t ⟨r, slot.map fun i => (i, auth.secret)⟩ .holdTest)).settle :=
  State.offer_entered h ht hawake hslot (length_fields_le hwf) (requestOf_fields hwf)

/-- A request whose entry ignores the block has its effect at the event of its capsule (R98). -/
theorem State.offer_ungated {s : State} (h : s.Calm) {tag : Byte} {t : Tag} (ht : s.FreeTag tag t)
    {auth : AuthBlock} {slot : Option SlotIndex} {r : Request}
    (hslot : blockSlot auth.slot = some slot) (hwf : r.wellFormed = true) (hneed : requestNeed r s.inStoreFault = .ignored)
    (haccess : accessRefusal s.access r = none) (hserved : s.entryServes r slot.isSome = true) :
    s.offer (.request tag auth r) =
      ((s.entered t ⟨r, slot.map fun i => (i, auth.secret)⟩).effectWithoutGate r
        (Service.entered s t ⟨r, slot.map fun i => (i, auth.secret)⟩ .holdTest)).settle := by
  have hawake : s.access ≠ .dormant := fun hd => by
    rw [hd] at haccess
    cases haccess
  rw [State.offer_wellFormed h ht hawake hslot hwf]
  refine congrArg State.settle (State.testRequest_free (.inl hneed) haccess ?_)
  show s.entryServes r (slot.map fun i => (i, auth.secret)).isSome = true
  rw [Option.isSome_map]
  exact hserved

/-- A request that its entry does not serve in service, and that takes no block, is answered WRONG_STATE (section 7.9). -/
theorem State.offer_wrongState {s : State} (h : s.Calm) {tag : Byte} {t : Tag} (ht : s.FreeTag tag t) (hservice : s.InService)
    {auth : AuthBlock} {slot : Option SlotIndex} {r : Request} (hslot : blockSlot auth.slot = some slot)
    (hwf : r.wellFormed = true) (hblock : slot.isSome = true ∨ requestNeed r s.inStoreFault ≠ .required)
    (hserved : s.entryServes r slot.isSome = false) :
    s.offer (.request tag auth r) = s.answered t .wrongState r.code .noFields := by
  refine State.offer_refused h ht hservice.not_dormant hslot (length_fields_le hwf) (requestOf_fields hwf)
    (State.testRequest_wrongState ?_ (accessRefusal_inService (s := s) hservice r) ?_)
  · rintro ⟨hrequired, hnone⟩
    rcases hblock with hb | hb
    · cases slot with
      | none => cases hb
      | some i => cases hnone
    · exact hb hrequired
  · show s.entryServes r (slot.map fun i => (i, auth.secret)).isSome = false
    rw [Option.isSome_map]
    exact hserved

/-! ## The reports (R128, R131) -/

theorem NoticeSet.mem_names (n : NoticeSet) (x : NoticeName) : x ∈ n.names ↔ n.has x = true := by
  unfold NoticeSet.names
  rw [List.mem_filter]
  exact and_iff_right (by cases x <;> decide)

theorem NoticeSet.nodup_names (n : NoticeSet) : n.names.Nodup := List.Nodup.filter _ (by decide)

theorem State.viewCapacity_eq (s : State) : s.viewCapacity = ((s.view.getD View.empty).entries.map ViewEntry.length).sum := by
  unfold State.viewCapacity
  cases s.view <;> rfl

theorem State.provisioning_eq (s : State) : s.provisioning =
    if s.copies.credentials[(0 : SlotIndex)].record.map Credential.kind = some .blank then .blank
    else if s.copies.policy.final then .final else .owned := by
  unfold State.provisioning
  cases s.copies.credentials[(0 : SlotIndex)].record <;> simp

theorem State.viewReport_eq (s : State) (w : View) (hw : w = s.view.getD View.empty) :
    s.viewReport = w.entries.map fun e =>
      if w.kind = .image then ⟨e.visible, e.length, false, !(decide (s.access = .locked) && s.latch)⟩
      else ⟨e.visible, e.length, s.locks[e.range].readLock, s.locks[e.range].writeLock⟩ := by
  unfold State.viewReport
  cases hv : s.view with
  | none =>
    rw [hv] at hw
    subst hw
    rfl
  | some v =>
    rw [hv] at hw
    rw [show w = v from hw]
    refine List.map_congr_left fun e _ => ?_
    show ViewReport.mk e.visible e.length (s.reportedLocks v.kind e).readLock (s.reportedLocks v.kind e).writeLock =
      if v.kind = .image then _ else _
    unfold State.reportedLocks
    cases v.kind <;> rfl

/-- QUERY STATE answers its report in every state but DORMANT (R122, R128, R129). -/
theorem exec_queryState {s : State} (h : s.Calm) {tag : Byte} {t : Tag} (ht : s.FreeTag tag t) {auth : AuthBlock}
    (hslot : blockSlot auth.slot ≠ none) (hawake : s.access ≠ .dormant) :
    exec (.queryState tag auth) s =
      .next { s.answered t .good 1 (.state s.report) with notices := NoticeSet.empty, attention := false } := by
  obtain ⟨slot, hslot⟩ := Option.ne_none_iff_exists'.mp hslot
  have haccess : accessRefusal s.access .queryState = none := by
    cases ha : s.access <;> first | rfl | exact absurd ha hawake
  refine congrArg Host.Outcome.next ((State.offer_ungated h ht hslot rfl rfl haccess rfl).trans ?_)
  have hserved : ∀ e v, (s.entered t ⟨.queryState, e⟩).effectWithoutGate .queryState
      (Service.entered s t ⟨.queryState, e⟩ v) =
      (({ s with notices := NoticeSet.empty, attention := false } : State).entered t ⟨.queryState, e⟩).answer .good
        (.state s.report) := fun _ _ => rfl
  rw [hserved, State.entered_answer (s := { s with notices := NoticeSet.empty, attention := false }) h]
  exact State.settle_calm h

/-- QUERY RANGES without a block answers the entries of the current view in service (R131). -/
theorem exec_queryRanges_open {s : State} (h : s.Calm) {tag : Byte} {t : Tag} (ht : s.FreeTag tag t) {auth : AuthBlock}
    (hslot : auth.slot = noBlock) (hservice : s.InService) :
    exec (.queryRanges tag auth) s = .next (s.answered t .good 2 (.viewEntries s.viewReport)) := by
  have hblock : blockSlot auth.slot = some none := by rw [hslot]; exact blockSlot_noBlock
  refine congrArg Host.Outcome.next ((State.offer_wellFormed h ht hservice.not_dormant hblock rfl).trans ?_)
  rw [State.testRequest_free (.inr ⟨rfl, rfl⟩) (accessRefusal_inService (s := s) hservice .queryRanges) rfl]
  show (State.answer _ .good (.viewEntries s.viewReport)).settle = _
  rw [State.entered_answer h]
  exact State.settle_calm h

end Sys2Proof.Machine

/-- Settles O26: the report is the one the request forms, read field by field. -/
theorem openReports : Obligations.OpenReports := by
  unfold Obligations.OpenReports
  intro s tag t auth hcalm hfree hslot
  refine ⟨fun hawake => ⟨s.report, exec_queryState hcalm hfree hslot hawake, rfl, s.provisioning_eq, rfl, rfl, rfl, rfl, ?_, rfl, rfl,
    s.notices.nodup_names, s.notices.mem_names, ?none, ?purge, ?sanitize⟩, ?ranges⟩
  · rintro w rfl
    exact s.viewCapacity_eq
  case none =>
    intro hphase
    simp [State.report, State.reportedReason, State.reportedProgress, State.reportedSkipped, hphase]
  case purge =>
    intro j hphase hjob
    simp [State.report, State.reportedReason, State.reportedProgress, State.reportedSkipped, hphase, hjob]
  case sanitize =>
    intro j f hphase hjob hf
    have hfrontier : s.reportedFrontier = f := by
      unfold State.reportedFrontier
      rcases hf with ⟨z, hz, rfl⟩ | ⟨hz, hc⟩
      · rw [hz]
      · rw [hz, hc]
        rfl
    have hprogress : s.report.progress = progressOf s.capacity (s.excluded j) f := by
      show s.reportedProgress = _
      unfold State.reportedProgress
      rw [hphase, hjob, ← hfrontier]
    refine ⟨by simp [State.report, State.reportedReason, hphase, hjob],
      by simp [State.report, State.reportedSkipped, hphase, hjob], fun hx => ?_, fun y hx => ?_⟩
    · rw [hprogress, hx]
      simp [progressOf]
    · rw [hprogress, hx]
      simp [progressOf]
  case ranges =>
    rintro w hservice hblock rfl
    rw [exec_queryRanges_open hcalm hfree hblock hservice, s.viewReport_eq _ rfl]

namespace Sys2Proof.Machine

/-! ## TAKE OWNERSHIP (R114) -/

/-- The owner record that TAKE OWNERSHIP writes (R114). -/
def State.firstOwner (s : State) (secret : Secret) (key : Key) : Credential :=
  ⟨.owner, some .active, some (Config.freshSalt s.draws), some (Config.secretDigest (Config.freshSalt s.draws) secret),
    [wrapKey (Config.wrappingKey secret (Config.freshSalt s.draws)) 0 s.copies.layout[(0 : RangeIndex)].generation key]⟩

/-- TAKE OWNERSHIP awaits the write of the owner record (R89, R114). -/
def State.takingOwnership (s : State) (t : Tag) (e : Envelope) (c : Credential) : State :=
  { s with
    table := s.table.set t Entry.ofControl
    service := some (Service.entered s t e .takeOwnership)
    writer := ⟨some ⟨.credential 0 c, [.channel]⟩, []⟩
    draws := s.draws + 1 }

theorem exec_takeOwnership {s : State} (h : s.Calm) {tag : Byte} {t : Tag} (ht : s.FreeTag tag t) {auth : AuthBlock}
    {slot : Option SlotIndex} (hslot : blockSlot auth.slot = some slot) (secret : Secret) {key : Key} (ha : s.access = .blank)
    (hidle : s.writer = ⟨none, []⟩) (hkey : s.slots[(0 : RangeIndex)].key = some key) :
    exec (.takeOwnership tag auth secret) s = .next (s.takingOwnership t ⟨.takeOwnership secret, slot.map fun i => (i, auth.secret)⟩
      (s.firstOwner secret key)) := by
  have hserved : s.entryServes (.takeOwnership secret) slot.isSome = true := by simp [State.entryServes, ha]
  refine congrArg Host.Outcome.next ((State.offer_ungated h ht hslot rfl rfl (accessRefusal_inService (.inl ha) _) hserved).trans ?_)
  have hwritten : ∀ e, (s.entered t e).serveTakeOwnership (Service.entered s t e .holdTest) secret =
      s.takingOwnership t e (s.firstOwner secret key) := by
    intro e
    unfold State.serveTakeOwnership
    have hwrap : (s.entered t e).slots[(0 : RangeIndex)].key.toList = [key] := by
      show s.slots[(0 : RangeIndex)].key.toList = _
      rw [hkey]
      rfl
    rw [hwrap, State.awaitWrite_idle (by exact hidle)]
    rfl
  show (State.serveTakeOwnership _ _ secret).settle = _
  rw [hwritten]
  exact State.settle_serving (v := Service.entered s t _ .takeOwnership) rfl rfl h.sessionEnd h.held h.lane h.dataLane

/-- The completion of the owner record's write opens the session (R114). -/
theorem exec_takingOwnership {s : State} (h : s.Calm) (t : Tag) (e : Envelope) (c : Credential) (ha : s.access = .blank)
    (hidle : s.writer = ⟨none, []⟩) :
    exec .storeWriteCompletion (s.takingOwnership t e c) =
      .next { (s.answered t .good e.request.code (.capacity s.viewCapacity)).withCredential 0 c with
        access := .opened, latch := false, draws := s.draws + 1 } := by
  have htold : ((s.takingOwnership t e c).landWrite ⟨.credential 0 c, [.channel]⟩).channelTold =
      ((({ s.withCredential 0 c with draws := s.draws + 1, writer := ⟨none, []⟩ } : State).entered t e).stage
        (Service.entered s t e .takeOwnership) .takeOwnership).ownershipTaken := rfl
  have hopened : ∀ u : State, u.access = .blank → u.enter .opened = { u with access := .opened, latch := false } := by
    intro u hu
    unfold State.enter
    rw [if_neg (by rw [hu]; decide)]
    simp
  rw [exec_channelWrite (u := s.takingOwnership t e c) h.power rfl rfl, htold]
  unfold State.ownershipTaken
  rw [hopened _ (by exact ha), State.answer_eq (v := Service.entered s t e .takeOwnership) (by rfl) (by rfl)]
  have hentry : (s.table.set t Entry.ofControl).set t Entry.free = s.table.set t Entry.free := Vector.set_set ..
  refine congrArg Host.Outcome.next ((State.settle_calm ?_).trans ?_)
  · exact ⟨h.power, rfl, h.queue, h.lane, h.dataLane, h.sessionEnd, h.held⟩
  · simp only [State.answered, State.stage, State.entered, State.setEntry, Service.entered, State.withCredential, State.writerOn,
      Writer.beginNext, hentry]
    rw [← hidle, ← h.service]
    rfl

/-! ## PRESENT PLATFORM (R113) -/

/-- PRESENT PLATFORM is served without regard to its block in service (section 7.9). -/
theorem exec_presentPlatform {s : State} (h : s.Calm) {tag : Byte} {t : Tag} (ht : s.FreeTag tag t) {auth : AuthBlock}
    (hslot : blockSlot auth.slot ≠ none) (hservice : s.InService) (token : Token) :
    ∃ e : Envelope, e.request = .presentPlatform token ∧
      exec (.presentPlatform tag auth token) s = .next ((s.entered t e).servePresentPlatform token).settle := by
  obtain ⟨slot, hslot⟩ := Option.ne_none_iff_exists'.mp hslot
  exact ⟨⟨.presentPlatform token, slot.map fun i => (i, auth.secret)⟩, rfl,
    congrArg Host.Outcome.next (State.offer_ungated h ht hslot rfl rfl (accessRefusal_inService hservice _) rfl)⟩

/-- The answer of PRESENT PLATFORM, with the platform state it leaves. -/
theorem State.entered_platform {s : State} (h : s.Calm) (t : Tag) (e : Envelope) (p : PlatformState) (st : Status) (f : Response) :
    ({ s.entered t e with presented := true, platform := p } : State).answer st f =
      { s.answered t st e.request.code f with presented := true, platform := p } :=
  State.entered_answer (s := { s with presented := true, platform := p }) h t e st f

/-! ## SELF TEST (R139, R140) -/

/-- A SELF TEST that waits begins its test once no entry is FORWARDED, and else goes on waiting (R139). -/
theorem State.settle_holdTest {s : State} {v : Service} (hv : s.service = some v) (hg : v.stage = .holdTest)
    (hawake : s.access ≠ .dormant) (hend : s.sessionEnd = false) (hheld : s.heldPowerEnter = false) (hlane : s.lane = [])
    (hdata : s.dataLane = []) :
    s.settle = if s.noneForwarded then { s with service := some { v with stage := .testing } } else s := by
  have hsession : s.sessionEndReady = false := by simp [State.sessionEndReady, hend]
  have hhold : s.holdReady = s.noneForwarded := by simp [State.holdReady, State.serviceStage, hv, hg, hawake]
  by_cases hnone : s.noneForwarded = true
  · rw [if_pos hnone]
    have hproceed : s.proceed = { s with service := some { v with stage := .testing } } := by
      unfold State.proceed
      rw [hsession, if_neg (by decide)]
      unfold State.endHold
      rw [hv]
      dsimp only
      rw [hg]
      dsimp only
      rw [if_neg hawake]
      rfl
    have hstep : s.settleStep = some { s with service := some { v with stage := .testing } } := by
      simp [State.settleStep, State.channelReady, hhold, hnone, State.powerEnterReady, hheld, hproceed]
    rw [State.settle_step hstep]
    exact State.settle_serving (v := { v with stage := .testing }) rfl rfl hend hheld hlane hdata
  · rw [if_neg hnone]
    exact State.settle_of_settled (State.settleStep_none (by simp [State.channelReady, hsession, hhold, hnone]) (.inl (by simp [hv]))
      hheld hlane hdata)

/-- The end of a running SELF TEST's test, no wipe having struck it (R140). -/
theorem exec_selfTestEnd {s : State} {v : Service} (hpower : s.power = .running) (hv : s.service = some v) (hg : v.stage = .testing)
    (hstruck : v.struck = false) (dx dy : Option Sector) :
    exec (.selfTestEnd dx dy) s =
      .next (if s.vector.passes dx dy then s.answerPlain .good else s.selfTestFailed).settle := by
  have howes : s.owesAnswer = false := by simp [State.owesAnswer, State.serviceStage, hv, hg]
  have hends : s.testEnds (s.vector.passes dx dy) =
      if s.vector.passes dx dy then s.answerPlain .good else s.selfTestFailed := by
    unfold State.testEnds
    rw [if_neg (by rw [hpower]; decide), hv]
    dsimp only
    rw [if_pos hg, if_neg (by rw [hstruck]; decide)]
  show Host.Outcome.next (s.event _) = _
  rw [State.event_of_owes howes (by rw [hpower]; decide), hends]

theorem KnownAnswer.passes_iff (k : KnownAnswer) (dx dy : Option Sector) :
    k.passes dx dy = true ↔ k.enciphered dx = k.expected ∧ k.deciphered (k.enciphered dx) dy = k.plain := by
  simp [KnownAnswer.passes]

/-- A failed SELF TEST enters FAULT without a key and is answered FAULT (R140). -/
theorem State.selfTestFailed_eq {s : State} {v : Service} (hv : s.service = some v) (hdiscard : v.discard = false)
    (hawake : s.access ≠ .dormant) :
    s.selfTestFailed = { s.answered v.tag .fault v.code .noFields with
      service := none, access := .fault, faultCause := some .selfTest, sessionEnd := false, latch := false
      slots := Vector.replicate 16 KeySlot.empty, locks := Vector.replicate 16 Locks.both
      view := some View.empty, pendingView := none } := by
  unfold State.selfTestFailed State.enterFault State.enter
  rw [if_neg (by exact hawake)]
  unfold State.answerPlain
  rw [State.answer_eq (v := v) (by exact hv) hdiscard]
  rfl

end Sys2Proof.Machine

/-- Settles O28. -/
theorem takeOwnershipMakesTheOwner : Obligations.TakeOwnershipMakesTheOwner := by
  unfold Obligations.TakeOwnershipMakesTheOwner
  intro s tag t auth secret hcalm hfree hslot
  obtain ⟨slot, hslot⟩ := Option.ne_none_iff_exists'.mp hslot
  refine ⟨fun key ha hidle hkey => ⟨_, exec_takeOwnership hcalm hfree hslot secret ha hidle hkey, ?_⟩, fun ha => ?_⟩
  · rw [runs, exec_takingOwnership hcalm t _ _ ha hidle]
    rfl
  · have hservice : s.InService := by
      rcases ha with ha | ha | ha
      exacts [.inr (.inl ha), .inr (.inr (.inl ha)), .inr (.inr (.inr ha))]
    refine congrArg Host.Outcome.next (State.offer_wrongState hcalm hfree hservice hslot rfl (.inr nofun) ?_)
    rcases ha with ha | ha | ha <;> simp [State.entryServes, ha]

/-- Settles O29: the first presentation is told apart by the digest and the binding policy. -/
theorem presentPlatformCompares : Obligations.PresentPlatformCompares := by
  unfold Obligations.PresentPlatformCompares
  intro s tag t auth token hcalm hfree hslot hservice
  obtain ⟨e, he, hserved⟩ := exec_presentPlatform hcalm hfree hslot hservice token
  have hcode : e.request.code = 17 := by rw [he]; rfl
  have hcalm' : ∀ st f, (s.answered t st e.request.code f).Calm := fun _ _ => hcalm
  have hanswer : ∀ p st f, ({ s.entered t e with presented := true, platform := p } : State).answer st f =
      { s.answered t st 17 f with presented := true, platform := p } := fun p st f => by
    rw [State.entered_platform hcalm, hcode]
  rw [hserved]
  refine ⟨fun hfirst => ⟨fun hmatch => ?matched, fun hbinding hdigest => ⟨fun hdeny => ?denied, fun hwipe hnone hjob hidle => ?wiped⟩⟩,
    fun hagain => ?again⟩
  case matched =>
    have htaken : (s.entered t e).servePresentPlatform token =
        ({ s.entered t e with presented := true, platform := .matched } : State).answer .good (.platform .matched) := by
      unfold State.servePresentPlatform
      rw [if_neg (by exact (Bool.not_eq_true _).mpr hfirst)]
      exact if_pos hmatch
    rw [htaken, hanswer]
    exact congrArg Host.Outcome.next (State.settle_calm hcalm)
  case denied =>
    have htaken : (s.entered t e).servePresentPlatform token =
        ({ s.entered t e with presented := true, platform := .mismatched } : State).answer .good (.platform .mismatched) := by
      unfold State.servePresentPlatform
      rw [if_neg (by exact (Bool.not_eq_true _).mpr hfirst)]
      exact (if_neg (not_or.mpr ⟨hbinding, hdigest⟩)).trans (if_pos hdeny)
    rw [htaken, hanswer]
    exact congrArg Host.Outcome.next (State.settle_calm hcalm)
  case wiped =>
    have htaken : (s.entered t e).servePresentPlatform token =
        (({ s.entered t e with presented := true, platform := .mismatched } : State).answer .wiped .noFields).triggerWipe
          .platform := by
      unfold State.servePresentPlatform
      rw [if_neg (by exact (Bool.not_eq_true _).mpr hfirst)]
      exact (if_neg (not_or.mpr ⟨hbinding, hdigest⟩)).trans (if_neg (by
        show s.copies.policy.binding ≠ .deny
        rw [hwipe]
        decide))
    have hfault : ¬ (s.access = .fault ∧ s.faultCause = some .selfTest) := by
      rintro ⟨ha, _⟩
      rcases hservice with h | h | h | h <;> rw [h] at ha <;> cases ha
    have hanswered : ({ s.answered t .wiped 17 .noFields with presented := true, platform := .mismatched } : State).noneForwarded =
        true := by
      rw [← hnone]
      exact State.noneForwarded_set (by rw [hfree.2]; decide) (by decide)
    rw [htaken, hanswer]
    unfold State.triggerWipe
    rw [State.trigger_begun (by exact hcalm.service) hanswered (by exact hjob) (by exact hidle) (by exact hfault)]
    exact congrArg Host.Outcome.next (State.settle_calm
      (State.Calm.wipeBegun (s := { s.answered t .wiped 17 .noFields with presented := true, platform := .mismatched }) hcalm _ _ _))
  case again =>
    have htaken : (s.entered t e).servePresentPlatform token = (s.entered t e).answer .wrongState .noFields := if_pos hagain
    rw [htaken, State.entered_answer hcalm, hcode]
    exact congrArg Host.Outcome.next (State.settle_calm hcalm)

/-- Settles O30. -/
theorem selfTestRuns : Obligations.SelfTestRuns := by
  unfold Obligations.SelfTestRuns
  refine ⟨fun s tag t auth slot hcalm hfree hslot => ⟨fun hservice => ?begins, fun ha => ?_, fun ha => ?_⟩, ?drained, ?ends⟩
  case begins =>
    have hnone : (s.setEntry t Entry.ofControl).noneForwarded = s.noneForwarded :=
      State.noneForwarded_set (by rw [hfree.2]; decide) (by decide)
    refine congrArg Host.Outcome.next
      ((State.offer_ungated hcalm hfree hslot rfl rfl (accessRefusal_inService hservice _) rfl).trans ?_)
    let v := Service.entered s t ⟨.selfTest, slot.map fun i => (i, auth.secret)⟩ .holdTest
    show ({ s.setEntry t Entry.ofControl with service := some v } : State).settle = _
    rw [State.settle_holdTest (s := { s.setEntry t Entry.ofControl with service := some v }) (v := v) rfl rfl
      hservice.not_dormant hcalm.sessionEnd hcalm.held hcalm.lane hcalm.dataLane]
    rw [show ({ s.setEntry t Entry.ofControl with service := some v } : State).noneForwarded = s.noneForwarded from hnone]
    cases s.noneForwarded <;> rfl
  · exact congrArg Host.Outcome.next (State.offer_refused hcalm hfree (by rw [ha]; decide) hslot (by decide) rfl
      (State.testRequest_refused (fun hneed => AuthNeed.noConfusion hneed.1) (by
        show accessRefusal s.access .selfTest = _
        rw [ha]
        rfl)))
  · exact congrArg Host.Outcome.next (State.offer_refused hcalm hfree (by rw [ha]; decide) hslot (by decide) rfl
      (State.testRequest_refused (fun hneed => AuthNeed.noConfusion hneed.1) (by
        show accessRefusal s.access .selfTest = _
        rw [ha]
        rfl)))
  case drained =>
    rintro s v subTag code x t g st u ⟨hpower, hv, _, _, hlane, hdata, hend, hheld⟩ hstage hawake hends hu
    have howes : s.owesAnswer = false := by simp [State.owesAnswer, State.serviceStage, hv, hstage]
    have hsettled := State.settle_holdTest (s := u) (v := v) (by rw [hu]; exact hv) hstage (by rw [hu]; exact hawake)
      (by rw [hu]; exact hend) (by rw [hu]; exact hheld) (by rw [hu]; exact hlane) (by rw [hu]; exact hdata)
    rw [exec_completion_ends hpower howes hends, ← hu, hsettled]
    exact ⟨fun h => by rw [if_pos h], fun h => by rw [if_neg (by rw [h]; decide)]⟩
  case ends =>
    intro s v dx dy x y hpower hv hstage hdiscard hstruck hqueue hlane hdata hheld hawake hx hy
    have hpasses : s.vector.passes dx dy = true ↔ x = s.vector.expected ∧ y = s.vector.plain := by
      rw [KnownAnswer.passes_iff, hy, hx]
      rfl
    rw [exec_selfTestEnd hpower hv hstage hstruck]
    refine ⟨fun hsound hend => ?_, fun hfails => ?_⟩
    · have hmatch : x = s.vector.expected ∧ y = s.vector.plain := by
        rcases hsound with h | ⟨rfl, rfl, hexpected⟩
        · exact h
        · have hcipher : x = encipher s.vector.key s.vector.tweak s.vector.plain := hx
          refine ⟨hcipher.trans hexpected.symm, ?_⟩
          rw [hy, hcipher]
          exact decipher_encipher ..
      rw [if_pos (hpasses.mpr hmatch), State.answerPlain, State.answer_eq hv hdiscard]
      exact congrArg Host.Outcome.next (State.settle_calm ⟨hpower, rfl, hqueue, hlane, hdata, hend, hheld⟩)
    · rw [if_neg fun h => (hpasses.mp h).elim fun h1 h2 => hfails.elim (· h1) (· h2), State.selfTestFailed_eq hv hdiscard hawake]
      exact congrArg Host.Outcome.next (State.settle_calm ⟨hpower, rfl, hqueue, hlane, hdata, rfl, hheld⟩)

end

section
/-! Proofs/GateCourse.lean: the authorization gate (R98 to R104, R151) for every request that takes a block, from the capsule to the
completion of the reset; then the requests past it that write one record at most: IMAGE WRITE ENABLE (R138), BIND PLATFORM (R136) and
FINALIZE (R137). -/

open Sys2Proof Sys2Proof.Machine

namespace Sys2Proof.Machine

/-! ## Where a request with a block is served (section 7.9) -/

/-- The access states in which the entry of a request that takes a block serves it; none for a request that takes none. -/
def gatedIn : Request → Option (List Access)
  | .queryRanges | .queryCredentials | .setCredential .. | .changeSecret _ | .setPolicy .. | .bindPlatform .. | .finalize =>
      some [.locked, .staged, .opened]
  | .wipe => some [.locked, .staged, .opened, .fault]
  | .unlock _ => some [.locked, .opened]
  | .lock _ | .setLocks _ | .endSession => some [.staged, .opened]
  | .defineRange .. | .deleteRange _ | .imageWriteEnable => some [.locked]
  | .eraseRange _ => some [.locked, .opened]
  | .queryState | .setAttention | .selfTest | .takeOwnership _ | .presentPlatform _ => none

/-- The part, in its access state, takes a block for a request: a WIPE in FAULT with cause STORE takes none (R143). -/
abbrev State.TakesBlock (s : State) (r : Request) : Prop := r = .wipe → s.access = .fault → s.faultCause ≠ some .store

theorem State.TakesBlock.of_inService {s : State} (h : s.InService) (r : Request) : s.TakesBlock r := fun _ hf => by
  rcases h with h | h | h | h <;> rw [h] at hf <;> cases hf

section
variable {r : Request} {served : List Access} (hr : gatedIn r = some served)
include hr

theorem requestNeed_gated {s : State} (htakes : s.TakesBlock r) (hranges : r ≠ .queryRanges) :
    requestNeed r s.inStoreFault = .required := by
  cases r <;> first | rfl | exact absurd rfl hranges | skip
  case wipe =>
    have hstore : s.inStoreFault = false := by
      unfold State.inStoreFault
      rw [← Bool.decide_and]
      exact decide_eq_false fun h => htakes rfl h.1 h.2
    rw [hstore]
    rfl
  all_goals cases hr

theorem requestNeed_gated_ne {s : State} (htakes : s.TakesBlock r) : requestNeed r s.inStoreFault ≠ .ignored := by
  by_cases hranges : r = .queryRanges
  · rw [hranges]
    nofun
  · rw [requestNeed_gated hr htakes hranges]
    decide

theorem accessRefusal_wiping : accessRefusal .wiping r = some .wiped := by
  cases r <;> first | rfl | cases hr

theorem accessRefusal_fault (hwipe : r ≠ .wipe) : accessRefusal .fault r = some .fault := by
  cases r <;> first | rfl | exact absurd rfl hwipe | cases hr

/-- Where its entry serves a request, the access state does not refuse it. -/
theorem accessRefusal_served {a : Access} (ha : a ∈ served) : accessRefusal a r = none := by
  cases r <;> cases hr <;> simp only [List.mem_cons, List.not_mem_nil, or_false] at ha
  case wipe => rcases ha with rfl | rfl | rfl | rfl <;> rfl
  case queryRanges | queryCredentials | setCredential | changeSecret | setPolicy | bindPlatform | finalize =>
    rcases ha with rfl | rfl | rfl <;> rfl
  case unlock | lock | setLocks | endSession | eraseRange => rcases ha with rfl | rfl <;> rfl
  case defineRange | deleteRange | imageWriteEnable =>
    subst ha
    rfl

/-- The entry's own state test, in service and wherever the entry serves the request. -/
theorem State.entryServes_gated {s : State} (hend : s.sessionEnd = false) (ha : s.InService ∨ s.access ∈ served) :
    s.entryServes r true = true ↔ s.access ∈ served ∧ ¬ (r = .finalize ∧ s.provisioning = .final) := by
  have haccess : s.access = .blank ∨ s.access = .locked ∨ s.access = .staged ∨ s.access = .opened ∨
      (s.access = .fault ∧ r = .wipe) := by
    rcases ha with (h | h | h | h) | h
    · exact .inl h
    · exact .inr (.inl h)
    · exact .inr (.inr (.inl h))
    · exact .inr (.inr (.inr (.inl h)))
    · cases r <;> cases hr <;> simp only [List.mem_cons, List.not_mem_nil, or_false] at h <;> tauto
  cases r <;> cases hr <;> rcases haccess with h | h | h | h | ⟨h, hwipe⟩ <;>
    simp_all [State.entryServes, State.isFinal]

end

/-! ## The gate up to its first write (R98 to R100, R122) -/

/-- What the gate refuses before it counts, by its three stages (R99). -/
theorem State.gateRefusal_eq (s : State) (r : Request) (i : SlotIndex) : s.gateRefusal r i =
    if s.backoff ≠ none then some .backoff
    else if (∃ h, r = .unlock h) ∧ s.copies.policy.binding ≠ .none ∧ s.platform ≠ .matched then some .platform
    else if s.copies.credentials[i].corrupt then some .corrupt
    else none := by
  unfold State.gateRefusal
  cases r with
  | unlock handover => simp [Option.isSome_iff_ne_none]
  | _ => simp [Option.isSome_iff_ne_none]

theorem State.enterGate_stopped {u : State} {v : Service} {i : SlotIndex} {st : Status}
    (h : u.gateRefusal v.request i = some st) : u.enterGate v i = u.answerPlain st := by
  unfold State.enterGate
  rw [h]

/-- A request stopped by a stage before the count is answered with that stage's status, and nothing else changes (R99). -/
theorem State.offer_stopped {s : State} (h : s.Calm) {tag : Byte} {t : Tag} (ht : s.FreeTag tag t) {auth : AuthBlock}
    {i : SlotIndex} (hslot : auth.slot.toNat = i.val) {r : Request} (hwf : r.wellFormed = true)
    (hneed : requestNeed r s.inStoreFault ≠ .ignored) (haccess : accessRefusal s.access r = none)
    (hserved : s.entryServes r true = true) {st : Status} (hstop : s.gateRefusal r i = some st) :
    s.offer (.request tag auth r) = s.answered t st r.code .noFields := by
  have hawake : s.access ≠ .dormant := fun hd => by
    rw [hd] at haccess
    cases haccess
  refine State.offer_refused h ht hawake (blockSlot_of_toNat hslot) (length_fields_le hwf) (requestOf_fields hwf) ?_
  rw [State.testRequest_gate (i := i) (secret := auth.secret) (by rfl) (by exact hneed) (by exact haccess) (by exact hserved)]
  exact State.enterGate_stopped hstop

/-- A request that no stage stops awaits the write of the raised count (R100). -/
theorem State.offer_counts {s : State} (h : s.Calm) {tag : Byte} {t : Tag} (ht : s.FreeTag tag t) {auth : AuthBlock}
    {i : SlotIndex} (hslot : auth.slot.toNat = i.val) {r : Request} (hwf : r.wellFormed = true)
    (hneed : requestNeed r s.inStoreFault ≠ .ignored) (haccess : accessRefusal s.access r = none)
    (hserved : s.entryServes r true = true) (hpass : s.gateRefusal r i = none) (hidle : s.writer = ⟨none, []⟩) :
    s.offer (.request tag auth r) = s.counting t ⟨r, some (i, auth.secret)⟩ :=
  State.offer_counting h ht
    (readEnvelope_envelopeOf (blockSlot_of_toNat hslot) (length_fields_le hwf) (requestOf_fields hwf)) hneed haccess hserved hpass
    hidle

/-! ## The completion of a write that the channel awaits (R87, R89) -/

theorem State.landWrite_counters (s : State) (c : Counters) (ws : List Waiter) :
    s.landWrite ⟨.counters c, ws⟩ = { s.withCounters c with writer := ⟨none, s.writer.queue⟩ } := rfl

theorem State.landWrite_credential (s : State) (i : SlotIndex) (c : Credential) (ws : List Waiter) :
    s.landWrite ⟨.credential i c, ws⟩ = { s.withCredential i c with writer := ⟨none, s.writer.queue⟩ } := rfl

theorem State.landWrite_policy (s : State) (p : Policy) (ws : List Waiter) :
    s.landWrite ⟨.policy p, ws⟩ = { s.withPolicy p with writer := ⟨none, s.writer.queue⟩ } := rfl

section
variable {s : State} {v : Service} (hv : s.service = some v) (hstruck : v.struck = false)
include hv hstruck

theorem State.channelTold_gateCount {i : SlotIndex} {secret : Secret} (hg : v.stage = .gateCount)
    (ha : v.auth = some (i, secret)) : s.channelTold = s.gateVerify v i secret := by
  unfold State.channelTold
  rw [hv]
  dsimp only
  rw [hstruck, if_neg (by decide), hg, ha]

theorem State.channelTold_gateReset {i : SlotIndex} {secret : Secret} (hg : v.stage = .gateReset)
    (ha : v.auth = some (i, secret)) : s.channelTold = s.afterReset v i secret := by
  unfold State.channelTold
  rw [hv]
  dsimp only
  rw [hstruck, if_neg (by decide), hg, ha]

end

/-- A completed write of the channel's, with what its requester then does and the next write begun. -/
theorem exec_channelTold {s u : State} {v : Service} {c : Content} (hpower : s.power = .running) (hv : s.service = some v)
    (hawaits : v.stage.awaitsWrite = true) (hw : s.writer = ⟨some ⟨c, [.channel]⟩, []⟩)
    (htold : (s.landWrite ⟨c, [.channel]⟩).channelTold.writerOn.settle = u) : exec .storeWriteCompletion s = .next u := by
  have howes : s.owesAnswer = false := by
    unfold State.owesAnswer State.serviceStage
    rw [hv]
    cases hg : v.stage <;> simp_all [Stage.awaitsWrite]
  rw [exec_channelWrite hpower howes hw, htold]

/-! ## Stages 5 to 7 (R101 to R104, R151) -/

theorem Credential.verifies_iff (c : Credential) (secret : Secret) : c.verifies secret = true ↔
    ∃ salt verifier, c.salt = some salt ∧ c.verifier = some verifier ∧ c.state = some .active ∧
      (c.kind = .owner ∨ c.kind = .user ∨ c.kind = .wipe) ∧ Config.secretDigest salt secret = verifier := by
  unfold Credential.verifies
  constructor
  · intro h
    split at h
    all_goals first
      | (rename_i salt verifier hk hs h1 h2
         exact ⟨salt, verifier, h1, h2, hs, by simp [hk], of_decide_eq_true h⟩)
      | cases h
  · rintro ⟨salt, verifier, h1, h2, hs, hk | hk | hk, hd⟩ <;> simp [h1, h2, hs, hk, hd]

/-- The kinds a request that takes a block allows (section 7.9). -/
def kindsAllowed : Request → Option (List CredentialKind)
  | .unlock _ | .endSession => some [.owner, .user, .wipe]
  | .changeSecret _ | .lock _ | .setLocks _ => some [.owner, .user]
  | .wipe => some [.owner, .wipe]
  | .queryRanges | .queryCredentials | .setCredential .. | .defineRange .. | .deleteRange _ | .imageWriteEnable
  | .setPolicy .. | .bindPlatform .. | .finalize | .eraseRange _ => some [.owner]
  | .queryState | .setAttention | .selfTest | .takeOwnership _ | .presentPlatform _ => none

theorem requestAllows_iff {r : Request} {kinds : List CredentialKind} (h : kindsAllowed r = some kinds) (k : CredentialKind) :
    requestAllows r k = true ↔ k ∈ kinds := by
  cases r <;> cases h
  case unlock | endSession =>
    show (decide (k = .owner) || decide (k = .user) || decide (k = .wipe)) = true ↔ _
    simp [or_assoc]
  case changeSecret | lock | setLocks =>
    show (decide (k = .owner) || decide (k = .user)) = true ↔ _
    simp
  case wipe =>
    show (decide (k = .owner) || decide (k = .wipe)) = true ↔ _
    simp
  all_goals
    show decide (k = .owner) = true ↔ _
    simp

/-- Slot 0 owes range 0's wrap when its owner record holds no current one (R151). -/
theorem State.lacksGlobalWrap_of {s : State} {c : Credential} (hrecord : s.copies.credentials[(0 : SlotIndex)].record = some c)
    (hkind : c.kind = .owner)
    (hnone : ∀ w ∈ c.wraps, w.range = 0 → w.generation ≠ s.copies.layout[(0 : RangeIndex)].generation) :
    s.credential 0 = c ∧ s.lacksGlobalWrap = true := by
  have hc : s.credential 0 = c := by
    unfold State.credential
    rw [hrecord]
    rfl
  refine ⟨hc, ?_⟩
  have hlacks : s.copies.layout.holdsCurrent c.wraps 0 = false := by
    unfold Layout.holdsCurrent
    refine List.any_eq_false.mpr fun w hw => ?_
    rw [Bool.not_eq_true, Bool.and_eq_false_iff]
    by_cases hrange : w.range = 0
    · right
      exact decide_eq_false fun h =>
        hnone w hw hrange (h.trans (congrArg (fun r : RangeIndex => s.copies.layout[r].generation) hrange))
    · exact .inl (decide_eq_false hrange)
  unfold State.lacksGlobalWrap
  rw [hc, hlacks, hkind]
  rfl

/-! ## Requests past an open gate -/

/-- A request of a part that is ready for it, where its entry serves it, is taken past the gate by the two counter writes (R100,
R104). UNLOCK has a stage of its own and is not covered. -/
theorem State.Ready.runs_pastGate {s : State} {tag : Byte} {t : Tag} {auth : AuthBlock} {i : SlotIndex}
    (hready : s.Ready tag t auth i) {r : Request} {served : List Access} (hr : gatedIn r = some served) (hwf : r.wellFormed = true)
    (ha : s.access ∈ served) (htakes : s.TakesBlock r) (hfinal : ¬ (r = .finalize ∧ s.provisioning = .final))
    (hunlock : ∀ handover, r ≠ .unlock handover) :
    runs (s.offer (.request tag auth r)) [.storeWriteCompletion, .storeWriteCompletion] =
      .next (s.pastGate t r i auth.secret) :=
  hready.reaches_pastGate (length_fields_le hwf) (requestOf_fields hwf) (requestNeed_gated_ne hr htakes) (accessRefusal_served hr ha)
    ((State.entryServes_gated hr hready.1.sessionEnd (.inr ha)).mpr ⟨ha, hfinal⟩) hunlock

/-- A request past the gate awaits one more record write, in a stage (R89). -/
def State.awaiting (s : State) (t : Tag) (e : Envelope) (g : Stage) (c : Content) : State :=
  { s.passed t e with service := some (Service.entered s t e g), writer := ⟨some ⟨c, [.channel]⟩, []⟩ }

theorem State.passed_awaitWrite {s : State} (h : s.Calm) (t : Tag) (e : Envelope) {g : Stage} (hg : g.holds = false)
    (c : Content) : ((s.passed t e).awaitWrite (Service.entered s t e .gateReset) g c).writerOn.settle = s.awaiting t e g c :=
  State.settle_serving (s := s.awaiting t e g c) (v := Service.entered s t e g) rfl hg h.sessionEnd h.held h.lane h.dataLane

/-- The last write of a request that wrote a credential record (R87, R121). -/
theorem exec_awaiting_credential {s : State} (h : s.Calm) (hidle : s.writer = ⟨none, []⟩) (t : Tag) (e : Envelope) (i : SlotIndex)
    (c : Credential) (f : Response) :
    exec .storeWriteCompletion (s.awaiting t e (.lastWrite f) (.credential i c)) =
      .next ((s.grantedAnswer t .good e.request.code f).withCredential i c) := by
  have htold : ((s.awaiting t e (.lastWrite f) (.credential i c)).landWrite ⟨.credential i c, [.channel]⟩).channelTold.writerOn.settle =
      ((s.withCredential i c).passed t e |>.answer .good f).writerOn.settle := rfl
  rw [exec_channelWrite (u := s.awaiting t e (.lastWrite f) (.credential i c)) h.power rfl rfl, htold]
  exact congrArg Host.Outcome.next (State.passed_answer (s := s.withCredential i c) h hidle t e .good f)

/-! ## The platform binding and the final flag (R136, R137) -/

theorem State.isFinal_of_owner {s : State} (howner : (s.credential 0).kind = .owner) : s.isFinal = s.copies.policy.final := by
  have hrecord : s.copies.credentials[(0 : SlotIndex)].record.map Credential.kind = some .owner := by
    unfold State.credential at howner
    cases hc : s.copies.credentials[(0 : SlotIndex)].record with
    | none =>
      rw [hc] at howner
      cases howner
    | some c =>
      rw [hc] at howner
      exact congrArg some howner
  unfold State.isFinal
  rw [State.provisioning_eq, hrecord, if_neg (by simp)]
  cases s.copies.policy.final <;> rfl

theorem bindingOf_eq {b : Byte} {p : BindingPolicy} (h : (b = 0 ∧ p = .none) ∨ (b = 1 ∧ p = .deny) ∨ (b = 2 ∧ p = .wipe)) :
    bindingOf b = some p := by
  rcases h with ⟨rfl, rfl⟩ | ⟨rfl, rfl⟩ | ⟨rfl, rfl⟩ <;> rfl

theorem bindingOf_eq_none {b : Byte} (h : 3 ≤ b.toNat) : bindingOf b = none := by
  obtain ⟨h0, h1, h2⟩ := byte_ne_of_three_le h
  rw [bindingOf, if_neg h0, if_neg h1, if_neg h2]

/-- A request past the gate whose effect is one write of the policy record that it answers with `f` (section 7.4). -/
theorem State.Ready.runs_policy {s : State} {tag : Byte} {t : Tag} {auth : AuthBlock} {i : SlotIndex} (hready : s.Ready tag t auth i)
    {r : Request} (hgate : runs (s.offer (.request tag auth r)) [.storeWriteCompletion, .storeWriteCompletion] =
      .next (s.pastGate t r i auth.secret)) (hkind : requestAllows r (s.credential i).kind = true) {p : Policy} {f : Response}
    (heffect : ∀ v, v.request = r → (s.passed t ⟨r, some (i, auth.secret)⟩).effect v i auth.secret =
      (s.passed t ⟨r, some (i, auth.secret)⟩).writePolicy v p f) :
    runs (s.offer (.request tag auth r)) [.storeWriteCompletion, .storeWriteCompletion, .storeWriteCompletion] =
      .next ((s.grantedAnswer t .good r.code f).withPolicy p) := by
  obtain ⟨hcalm, _, _, _, _, _, hidle, _⟩ := hready
  refine (runs_replicate (m := 2) .storeWriteCompletion 1 hgate).trans ?_
  rw [State.pastGate_effect t auth.secret hkind, heffect _ rfl, State.passed_writePolicy hcalm]
  simp only [List.replicate, runs, exec_policyWriting hcalm hidle]

/-- A request past the gate that is answered with no record written but the counts (R104, R121). -/
theorem State.Ready.runs_answer {s : State} {tag : Byte} {t : Tag} {auth : AuthBlock} {i : SlotIndex} (hready : s.Ready tag t auth i)
    {r : Request} (hgate : runs (s.offer (.request tag auth r)) [.storeWriteCompletion, .storeWriteCompletion] =
      .next (s.pastGate t r i auth.secret)) (hkind : requestAllows r (s.credential i).kind = true) {st : Status} {f : Response}
    (heffect : ∀ v, v.request = r → (s.passed t ⟨r, some (i, auth.secret)⟩).effect v i auth.secret =
      (s.passed t ⟨r, some (i, auth.secret)⟩).answer st f) :
    runs (s.offer (.request tag auth r)) [.storeWriteCompletion, .storeWriteCompletion] =
      .next (s.grantedAnswer t st r.code f) := by
  obtain ⟨hcalm, _, _, _, _, _, hidle, _⟩ := hready
  rw [hgate, State.pastGate_effect t auth.secret hkind, heffect _ rfl, State.passed_answer hcalm hidle]

end Sys2Proof.Machine

/-- Settles O31: the request is refused, stopped by a stage, or counted. -/
theorem gateCountsBeforeItVerifies : Obligations.GateCountsBeforeItVerifies := by
  unfold Obligations.GateCountsBeforeItVerifies
  intro s c tag t auth r served hc hwf hcalm hfree hmatch htakes
  have hr : gatedIn r = some served := by cases r <;> exact hmatch
  have hexec : exec c s = .next (s.offer (.request tag auth r)) := exec_capsule hc (State.owesAnswer_of_service hcalm.service)
  have hrefused : ∀ {slot : Option SlotIndex} {st : Status}, blockSlot auth.slot = some slot → s.access ≠ .dormant →
      (s.entered t ⟨r, slot.map fun i => (i, auth.secret)⟩).testRequest
        (Service.entered s t ⟨r, slot.map fun i => (i, auth.secret)⟩ .holdTest) =
        (s.entered t ⟨r, slot.map fun i => (i, auth.secret)⟩).answerPlain st →
      exec c s = .next (s.answered t st r.code .noFields) := fun hslot hawake htest =>
    hexec.trans (congrArg Host.Outcome.next
      (State.offer_refused hcalm hfree hawake hslot (length_fields_le hwf) (requestOf_fields hwf) htest))
  refine ⟨fun hblock hranges hawake => ?noBlock, fun i hslot => ⟨fun ha => ?wiping, fun ha hwipe => ?fault, fun hservice hun => ?wrong,
    fun ha hfinal => ?served⟩⟩
  case noBlock =>
    exact hrefused (slot := none) (by rw [show auth.slot = noBlock from hblock]; exact blockSlot_noBlock) hawake
      (State.testRequest_noBlock (requestNeed_gated (s := s) hr htakes hranges) rfl)
  case wiping =>
    exact hrefused (blockSlot_of_toNat hslot) (by rw [ha]; decide) (State.testRequest_refused (by rintro ⟨_, h⟩; cases h)
      (by show accessRefusal s.access r = _; rw [ha]; exact accessRefusal_wiping hr))
  case fault =>
    exact hrefused (blockSlot_of_toNat hslot) (by rw [ha]; decide) (State.testRequest_refused (by rintro ⟨_, h⟩; cases h)
      (by show accessRefusal s.access r = _; rw [ha]; exact accessRefusal_fault hr hwipe))
  case wrong =>
    refine hexec.trans (congrArg Host.Outcome.next
      (State.offer_wrongState hcalm hfree hservice (blockSlot_of_toNat hslot) hwf (.inl rfl) ?_))
    refine Bool.eq_false_iff.mpr fun h => ?_
    obtain ⟨hmem, hnot⟩ := (State.entryServes_gated hr hcalm.sessionEnd (.inl hservice)).mp h
    exact hun.elim (· hmem) hnot
  case served =>
    have hneed := requestNeed_gated_ne (s := s) hr htakes
    have haccess := accessRefusal_served hr ha
    have hserves := (State.entryServes_gated hr hcalm.sessionEnd (.inr ha)).mpr ⟨ha, hfinal⟩
    have hstopped : ∀ {st : Status}, s.gateRefusal r i = some st → exec c s = .next (s.answered t st r.code .noFields) := fun h =>
      hexec.trans (congrArg Host.Outcome.next (State.offer_stopped hcalm hfree hslot hwf hneed haccess hserves h))
    have hgate := s.gateRefusal_eq r i
    refine ⟨fun hb => hstopped (by rw [hgate, if_pos hb]), fun hb => ⟨fun hp => hstopped (by rw [hgate, if_neg (not_not.mpr hb), if_pos hp]),
      fun hp => ⟨fun hx => hstopped (by rw [hgate, if_neg (not_not.mpr hb), if_neg hp, if_pos hx]), fun hx hidle => ?_⟩⟩⟩
    have hpass : s.gateRefusal r i = none := by rw [hgate, if_neg (not_not.mpr hb), if_neg hp, if_neg (by rw [hx]; decide)]
    exact hexec.trans (congrArg Host.Outcome.next (State.offer_counts hcalm hfree hslot hwf hneed haccess hserves hpass hidle))

/-- Settles O32. -/
theorem gateFailureCounts : Obligations.GateFailureCounts := by
  unfold Obligations.GateFailureCounts
  intro s v i secret n hpower hv hstage hauth hdiscard hstruck hqueue hlane hdata hend hheld hwriter
  refine ⟨fun hfails => ?_, Credential.verifies_iff _ _⟩
  let a : State := { (s.withCounters n).answered v.tag .authFailed v.code .noFields with service := none, writer := ⟨none, []⟩ }
  have hcalm : a.Calm := ⟨hpower, rfl, hqueue, hlane, hdata, hend, hheld⟩
  have htold : (s.landWrite ⟨.counters n, [.channel]⟩).channelTold =
      if s.copies.policy.attemptLimit ≠ 0 ∧ s.copies.policy.attemptLimit ≤ n.attempts then a.triggerWipe .attempts
      else a.startBackoff := by
    rw [State.landWrite_counters, hwriter, State.channelTold_gateCount (v := v) (by exact hv) hstruck hstage hauth]
    unfold State.gateVerify
    rw [if_neg (by
      show ¬ (s.credential i).verifies secret = true
      rw [hfails]
      decide)]
    unfold State.gateFailed State.answerPlain
    rw [State.answer_eq (v := v) (by exact hv) hdiscard]
    dsimp only
    unfold State.attemptLimitReached
    simp only [← Bool.decide_and, decide_eq_true_eq]
    rfl
  refine ⟨fun hlimit hfault hnone hjob => ?_, fun hbelow => ?_⟩
  · have hnone' : a.noneForwarded = true := (State.noneForwarded_set ((State.noneForwarded_iff s).mp hnone _) (by decide)).trans hnone
    refine exec_channelTold hpower hv (by rw [hstage]; rfl) hwriter ?_
    rw [htold, if_pos hlimit]
    unfold State.triggerWipe
    rw [State.trigger_begun (s := a) rfl hnone' hjob rfl (fun h => hfault h.1)]
    exact State.settle_calm (hcalm.wipeBegun _ _ _)
  · refine exec_channelTold hpower hv (by rw [hstage]; rfl) hwriter ?_
    rw [htold, if_neg hbelow]
    have hbackoff : a.startBackoff = { a with
        backoff := if s.copies.policy.freeTries < n.attempts
          then some (2 ^ min (n.attempts - s.copies.policy.freeTries - 1) 10) else s.backoff } := by
      unfold State.startBackoff
      by_cases h : s.copies.policy.freeTries < n.attempts
      · rw [if_pos (by exact h), if_pos h]
        rfl
      · rw [if_neg (by exact h), if_neg h]
        rfl
    rw [hbackoff]
    exact State.settle_calm hcalm

/-- Settles O33. -/
theorem gateResetsThenTestsTheKind : Obligations.GateResetsThenTestsTheKind := by
  unfold Obligations.GateResetsThenTestsTheKind
  intro s v i secret hpower hv hauth hdiscard hstruck hqueue hlane hdata hend hheld
  refine ⟨fun n hstage hwriter hverifies => ?reset, fun hstage hwriter howed kinds hmatch => ?tested⟩
  case reset =>
    refine exec_channelTold hpower hv (by rw [hstage]; rfl) hwriter ?_
    rw [State.landWrite_counters, hwriter, State.channelTold_gateCount (v := v) (by exact hv) hstruck hstage hauth]
    unfold State.gateVerify State.gatePassed
    rw [if_pos (by exact hverifies), State.awaitWrite_idle (by rfl)]
    exact State.settle_serving (v := { v with stage := .gateReset }) rfl rfl hend hheld hlane hdata
  case tested =>
    have hkinds : kindsAllowed v.request = some kinds := by
      revert hmatch
      cases v.request <;> exact id
    let w : State := { s.withCounters ⟨0, 0⟩ with writer := ⟨none, []⟩ }
    have htold : (s.landWrite ⟨.counters ⟨0, 0⟩, [.channel]⟩).channelTold = w.afterGate v i secret := by
      rw [State.landWrite_counters, hwriter, State.channelTold_gateReset (v := v) (by exact hv) hstruck hstage hauth]
      exact if_neg howed
    refine ⟨fun hother => exec_channelTold hpower hv (by rw [hstage]; rfl) hwriter ?_, fun hallowed =>
      exec_channelTold hpower hv (by rw [hstage]; rfl) hwriter ?_⟩
    · have hrefused : w.afterGate v i secret = w.answer .notPermitted .noFields :=
        if_neg (fun h => hother ((requestAllows_iff hkinds _).mp h))
      rw [htold, hrefused, State.answer_eq (s := w) hv hdiscard]
      exact State.settle_calm ⟨hpower, rfl, hqueue, hlane, hdata, hend, hheld⟩
    · have heffect : w.afterGate v i secret = w.effect v i secret := if_pos ((requestAllows_iff hkinds _).mpr hallowed)
      rw [htold, heffect]
      rfl

/-- Settles O34. -/
theorem ownerGetsTheGlobalWrap : Obligations.OwnerGetsTheGlobalWrap := by
  unfold Obligations.OwnerGetsTheGlobalWrap
  intro s v secret c salt hpower hv hstage hauth hstruck hlane hdata hend hheld hwriter hrecord hkind hsalt hnone
  obtain ⟨hc, hlacks⟩ := State.lacksGlobalWrap_of hrecord hkind hnone
  refine exec_channelTold hpower hv (by rw [hstage]; rfl) hwriter ?_
  rw [State.landWrite_counters, hwriter, State.channelTold_gateReset (v := v) (by exact hv) hstruck hstage hauth]
  unfold State.afterReset
  rw [if_pos ⟨rfl, hlacks⟩, State.awaitWrite_idle (by rfl)]
  have hwrap : ({ s.withCounters ⟨0, 0⟩ with writer := ⟨none, []⟩ } : State).ownerWithGlobalWrap secret = { c with
      wraps := putWrap (wrapKey (Config.wrappingKey secret salt) 0 s.copies.layout[(0 : RangeIndex)].generation
        (Config.freshKey s.draws)) (s.copies.layout.currentWraps c.wraps) } := by
    have hkey : (s.credential 0).wrappingKey secret = Config.wrappingKey secret salt := by
      unfold Credential.wrappingKey
      rw [hc, hsalt]
      rfl
    rw [← hkey, ← hc]
    rfl
  rw [hwrap]
  exact State.settle_serving (v := { v with stage := .ownerWrap }) rfl rfl hend hheld hlane hdata

/-- Settles O47. -/
theorem imageWriteEnableSetsTheLatch : Obligations.ImageWriteEnableSetsTheLatch := by
  unfold Obligations.ImageWriteEnableSetsTheLatch
  intro s tag t auth i hready
  refine ⟨fun ha howner => ⟨_, rfl, ?_⟩, fun ha => ?_⟩
  · have hgate := hready.runs_pastGate (r := .imageWriteEnable) rfl rfl (by rw [ha]; decide) nofun nofun nofun
    obtain ⟨hcalm, _, _, _, _, _, hidle, _⟩ := hready
    refine hgate.trans ?_
    have hlatch : ∀ e : Envelope, (s.passed t e).serveImageWriteEnable =
        (({ s with latch := true } : State).passed t e).answer .good .noFields := by
      intro e
      unfold State.serveImageWriteEnable
      have hset : ((s.passed t e).latch || decide ((s.passed t e).access = .locked)) = true := by
        show (s.latch || decide (s.access = .locked)) = true
        rw [ha]
        simp
      rw [hset]
      rfl
    rw [State.pastGate_effect t auth.secret (by exact decide_eq_true howner)]
    show Host.Outcome.next (State.serveImageWriteEnable _).writerOn.settle = _
    rw [hlatch, State.passed_answer (s := { s with latch := true }) hcalm hidle]
    rfl
  · obtain ⟨hcalm, hfree, hslot, _⟩ := hready
    have hservice : s.InService := by
      rcases ha with ha | ha | ha
      exacts [.inl ha, .inr (.inr (.inl ha)), .inr (.inr (.inr ha))]
    refine congrArg Host.Outcome.next
      (State.offer_wrongState (r := .imageWriteEnable) hcalm hfree hservice (blockSlot_of_toNat hslot) rfl (.inl rfl) ?_)
    rcases ha with ha | ha | ha <;> simp [State.entryServes, ha]

/-- Settles O50. -/
theorem bindPlatformAndFinalize : Obligations.BindPlatformAndFinalize := by
  unfold Obligations.BindPlatformAndFinalize
  intro s tag t auth
  refine ⟨fun hready hopen howner => ?past, fun i hcalm hfree hslot => ⟨fun ha policy token => ?_, fun ha => ?_⟩⟩
  case past =>
    have hserved : s.access ∈ [Access.locked, .staged, .opened] := by simpa using hopen
    have hservice : s.InService := .inr hopen
    have hgate : ∀ r, gatedIn r = some [.locked, .staged, .opened] → r.wellFormed = true →
        ¬ (r = .finalize ∧ s.provisioning = .final) → (∀ h, r ≠ .unlock h) →
        runs (s.offer (.request tag auth r)) [.storeWriteCompletion, .storeWriteCompletion] =
          .next (s.pastGate t r 0 auth.secret) := fun r hr hwf hfinal hunlock =>
      hready.runs_pastGate hr hwf hserved (State.TakesBlock.of_inService hservice r) hfinal hunlock
    have hisFinal := State.isFinal_of_owner howner
    have hbind := fun policy token => hgate (.bindPlatform policy token) rfl rfl nofun nofun
    have hallows : ∀ r, requestAllows r (s.credential 0).kind = decide ((s.credential 0).kind = .owner) →
        requestAllows r (s.credential 0).kind = true := fun r h => h.trans (decide_eq_true howner)
    have hopenFinal : s.copies.policy.final = false → ¬ ((Request.finalize : Request) = .finalize ∧ s.provisioning = .final) :=
      fun hf h => by
        have : s.isFinal = true := decide_eq_true h.2
        rw [hisFinal, hf] at this
        cases this
    refine ⟨fun policy token b p hb hp => ⟨_, rfl, ?_⟩, fun policy token hcode => ⟨_, rfl, ?_⟩, fun hf hlimit => ⟨_, rfl, ?_⟩,
      fun hf hlimit => ⟨_, rfl, ?_⟩⟩
    · refine hready.runs_policy (hbind policy token) (hallows _ rfl) fun v hv => ?_
      have htaken : s.copies.policy.bindTo s.isFinal b (Config.tokenDigest token) = p := by
        rw [hp, hisFinal]
        unfold Policy.bindTo
        simp only [Bool.and_eq_true, decide_eq_true_eq]
      unfold State.effect
      rw [hv]
      dsimp only
      unfold State.serveBindPlatform
      rw [bindingOf_eq hb]
      rw [← htaken]
      rfl
    · refine hready.runs_answer (hbind policy token) (hallows _ rfl) fun v hv => ?_
      unfold State.effect
      rw [hv]
      dsimp only
      unfold State.serveBindPlatform
      rw [bindingOf_eq_none hcode]
      rfl
    · refine hready.runs_policy (hgate .finalize rfl rfl (hopenFinal hf) nofun) (hallows _ rfl) fun v hv => ?_
      unfold State.effect
      rw [hv]
      exact if_neg hlimit
    · refine hready.runs_answer (hgate .finalize rfl rfl (hopenFinal hf) nofun) (hallows _ rfl) fun v hv => ?_
      unfold State.effect
      rw [hv]
      exact if_pos hlimit
  · refine congrArg Host.Outcome.next (State.offer_wrongState (r := .bindPlatform policy token) hcalm hfree (.inl ha)
      (blockSlot_of_toNat hslot) rfl (.inl rfl) ?_)
    simp [State.entryServes, ha]
  · have hservice : s.InService := by
      rcases ha with ha | ⟨ha, _⟩
      exacts [.inl ha, .inr ha]
    refine congrArg Host.Outcome.next (State.offer_wrongState (r := .finalize) hcalm hfree hservice (blockSlot_of_toNat hslot) rfl
      (.inl rfl) ?_)
    rcases ha with ha | ⟨_, hf⟩
    · simp [State.entryServes, ha]
    · simp [State.entryServes, State.isFinal, hf]

end

section
/-! Proofs/Listing.lean: the requests past the gate that report (R132, R133), that write one credential record (R115 to R117) and that
set locks (R73), with what the index bytes of their lists name (R60, R71). -/

open Sys2Proof Sys2Proof.Machine

namespace Sys2Proof.Machine

/-! ## Index bytes (R60) and current wraps (R95) -/

theorem rangeOf_eq_some {b : Byte} {r : RangeIndex} : rangeOf b = some r ↔ b.toNat = r.val := by
  unfold rangeOf
  have hr := r.isLt
  constructor
  · intro h
    split at h
    · cases h
      rfl
    · cases h
  · intro h
    rw [dif_pos (by omega)]
    exact congrArg some (Fin.ext h)

theorem rangeOf_eq_none {b : Byte} : rangeOf b = none ↔ 16 ≤ b.toNat := by
  unfold rangeOf
  split
  · simp only [reduceCtorEq, false_iff]
    omega
  · simp only [true_iff]
    omega

theorem rangeOf_isNone (b : Byte) : (rangeOf b).isNone = true ↔ 16 ≤ b.toNat :=
  Option.isNone_iff_eq_none.trans rangeOf_eq_none

/-- The ranges a list of index bytes names. -/
theorem contains_namedRanges (bs : List Byte) (r : RangeIndex) :
    (bs.filterMap rangeOf).contains r = bs.any fun b => decide (b.toNat = r.val) := by
  rw [Bool.eq_iff_iff, List.contains_iff_mem, List.mem_filterMap, List.any_eq_true]
  simp only [rangeOf_eq_some, decide_eq_true_eq]

theorem Layout.holdsCurrent_eq (l : Layout) (ws : List Wrap) (r : RangeIndex) :
    l.holdsCurrent ws r = ws.any fun w => decide (w.range = r) && decide (w.generation = l[r].generation) := by
  unfold Layout.holdsCurrent Layout.isCurrent
  rw [Bool.eq_iff_iff, List.any_eq_true, List.any_eq_true]
  refine exists_congr fun w => and_congr_right fun _ => ?_
  simp only [Bool.and_eq_true, decide_eq_true_eq]
  refine and_congr_right fun h => ?_
  subst h
  rfl

theorem unwrapKey_wrapKey (kwk : Key) (r : RangeIndex) (g : Generation) (key : Key) :
    unwrapKey kwk (wrapKey kwk r g key) = some key := by
  unfold unwrapKey wrapKey
  rw [Equiv.symm_apply_apply, if_pos rfl]

/-- Keys wrapped under a key-wrapping key all come back under it (R106, R107). -/
theorem unwrapAll_wrapKey (kwk : Key) (ks : List RangeKey) :
    unwrapAll kwk (ks.map fun q => wrapKey kwk q.range q.generation q.key) = some ks := by
  induction ks with
  | nil => rfl
  | cons k ks ih =>
    rw [List.map_cons, unwrapAll, unwrapKey_wrapKey, ih]
    rfl

/-! ## The end of a request past the gate -/

section
variable {s : State} {tag : Byte} {t : Tag} {auth : AuthBlock} {i : SlotIndex} {r : Request}

/-- A request served in LOCKED, STAGED and OPEN is taken past an open gate. -/
theorem State.Ready.runs_open (hready : s.Ready tag t auth i) (hr : gatedIn r = some [.locked, .staged, .opened]) (hwf : r.wellFormed = true)
    (ha : s.access = .locked ∨ s.access = .staged ∨ s.access = .opened) (hfinal : r ≠ .finalize) :
    runs (s.offer (.request tag auth r)) [.storeWriteCompletion, .storeWriteCompletion] =
      .next (s.pastGate t r i auth.secret) :=
  hready.runs_pastGate hr hwf (by simpa using ha) (State.TakesBlock.of_inService (.inr ha) r) (fun h => hfinal h.1)
    (fun _ h => by rw [h] at hr; cases hr)

variable (hgate : runs (s.offer (.request tag auth r)) [.storeWriteCompletion, .storeWriteCompletion] =
    .next (s.pastGate t r i auth.secret)) (hkind : requestAllows r (s.credential i).kind = true)
include hgate hkind

/-- A request past the gate that has an effect on a calm part `u` and is answered with no record written but the counts. -/
theorem State.runs_acting {u : State} (hu : u.Calm) (hidle : u.writer = ⟨none, []⟩) {st : Status} {f : Response}
    (heffect : (s.passed t ⟨r, some (i, auth.secret)⟩).effect (Service.entered s t ⟨r, some (i, auth.secret)⟩ .gateReset) i
      auth.secret = (u.passed t ⟨r, some (i, auth.secret)⟩).answer st f) :
    runs (s.offer (.request tag auth r)) [.storeWriteCompletion, .storeWriteCompletion] =
      .next (u.grantedAnswer t st r.code f) := by
  rw [hgate, State.pastGate_effect t auth.secret hkind, heffect, State.passed_answer hu hidle]

/-- A request past the gate whose effect is one write of a credential record, at whose completion it is answered GOOD. -/
theorem State.runs_credential {u : State} (hu : u.Calm) (hidle : u.writer = ⟨none, []⟩) {j : SlotIndex} {c : Credential}
    {f : Response} (heffect : (s.passed t ⟨r, some (i, auth.secret)⟩).effect
      (Service.entered s t ⟨r, some (i, auth.secret)⟩ .gateReset) i auth.secret =
        (u.passed t ⟨r, some (i, auth.secret)⟩).awaitWrite (Service.entered u t ⟨r, some (i, auth.secret)⟩ .gateReset)
          (.lastWrite f) (.credential j c)) :
    runs (s.offer (.request tag auth r)) [.storeWriteCompletion, .storeWriteCompletion, .storeWriteCompletion] =
      .next ((u.grantedAnswer t .good r.code f).withCredential j c) := by
  refine (runs_replicate (m := 2) .storeWriteCompletion 1 hgate).trans ?_
  rw [State.pastGate_effect t auth.secret hkind, heffect, State.passed_awaitWrite hu t _ (by rfl)]
  simp only [List.replicate, runs, exec_awaiting_credential hu hidle]

end

/-! ## Reports (R132, R133) -/

theorem shownIn_eq (v : Option View) (r : RangeIndex) :
    shownIn v r = (v.getD View.empty).entries.any fun e => decide (e.range = r) := by
  cases v <;> rfl

theorem getElem?_allRanges {α : Type} (f : RangeIndex → α) (r : RangeIndex) : (allRanges.map f)[r.val]? = some (f r) := by
  simp [allRanges]

theorem getElem?_allSlots {α : Type} (f : SlotIndex → α) (i : SlotIndex) : (allSlots.map f)[i.val]? = some (f i) := by
  simp [allSlots]

theorem Layout.currentWraps_eq (l : Layout) (ws : List Wrap) :
    l.currentWraps ws = ws.filter fun w => decide (w.generation = l[w.range].generation) := rfl

/-- A record of the credentials report, by the working copy of its slot (R133). -/
theorem Layout.credentialReport_cases (l : Layout) (x : CredentialCopy) :
    (x.record = none → l.credentialReport x = ⟨none, some .corrupt, []⟩) ∧
      ∀ c, x.record = some c →
        (x.corrupt = true → l.credentialReport x = ⟨some c.kind, some .corrupt, []⟩) ∧
        (x.corrupt = false → l.credentialReport x =
          ⟨some c.kind, c.state.map CredentialState.reported, (l.currentWraps c.wraps).map Wrap.range⟩) := by
  unfold Layout.credentialReport
  refine ⟨fun h => by rw [h], fun c h => ?_⟩
  rw [h]
  exact ⟨fun hc => if_pos hc, fun hc => if_neg (by rw [hc]; decide)⟩

/-! ## SET CREDENTIAL (R115, R116) -/

/-- The ranges SET CREDENTIAL takes from its reveal list. -/
theorem State.takenReveal_eq (s : State) (k : CredentialKind) (reveal : List Byte) :
    s.takenReveal k reveal = allRanges.filter fun r => decide (k = .user) && (reveal.any fun b => decide (b.toNat = r.val)) &&
      s.copies.layout[r].defined && !s.copies.layout[r].image && (s.credential 0).wraps.any fun w =>
        decide (w.range = r) && decide (w.generation = s.copies.layout[r].generation) := by
  unfold State.takenReveal
  simp only [contains_namedRanges, Layout.holdsCurrent_eq]
  by_cases hk : k = .user
  · simp only [hk, if_true, decide_true, Bool.true_and]
  · simp only [hk, if_false, decide_false, Bool.false_and, List.filter_false]

theorem targetKindOf_none {b : Byte} (h : b = 0 ∨ 4 ≤ b.toNat) : targetKindOf b = none := by
  have hne : b ≠ 1 ∧ b ≠ 2 ∧ b ≠ 3 := by
    refine ⟨?_, ?_, ?_⟩ <;> rintro rfl <;> revert h <;> decide
  rw [targetKindOf, if_neg hne.1, if_neg hne.2.1, if_neg hne.2.2]

theorem targetStateOf_none {b : Byte} (h : 2 ≤ b.toNat) : targetStateOf b = none := by
  have hne : b ≠ 0 ∧ b ≠ 1 := by
    refine ⟨?_, ?_⟩ <;> rintro rfl <;> revert h <;> decide
  rw [targetStateOf, if_neg hne.1, if_neg hne.2]

section
variable {target kind state : Byte} {reveal : List Byte}

/-- SET CREDENTIAL with its codes read and its lists tested. -/
theorem State.serveSetCredential_valid (u : State) (v : Service) (ownerSecret secret : Secret) {i : SlotIndex} {k : CredentialKind}
    {st : CredentialState} (hkind : targetKindOf kind = some k) (hstate : targetStateOf state = some st) (hi : i ≠ 0)
    (htarget : target.toNat = i.val) (hlength : reveal.length ≤ 16) (hreveal : ∀ b ∈ reveal, b.toNat < 16) :
    u.serveSetCredential v ownerSecret target kind state secret reveal =
      if k = .empty then u.awaitWrite v (.lastWrite (.ranges (u.takenReveal k reveal))) (.credential i Credential.empty)
      else
        match unwrapAll ((u.credential 0).wrappingKey ownerSecret)
          ((u.copies.layout.currentWraps (u.credential 0).wraps).filter fun w => (u.takenReveal k reveal).contains w.range) with
        | none => u.mismatch 0
        | some keys => u.drawn.awaitWrite v (.lastWrite (.ranges (u.takenReveal k reveal)))
            (.credential i (u.newCredential k st secret keys)) := by
  have hrange : 1 ≤ target.toNat ∧ target.toNat < 8 := by
    have := i.isLt
    have : i.val ≠ 0 := fun h => hi (Fin.ext h)
    omega
  have hlists : ¬ (16 < reveal.length ∨ reveal.any (fun b => (rangeOf b).isNone) = true) := by
    rintro (h | h)
    · omega
    · obtain ⟨b, hb, hnone⟩ := List.any_eq_true.mp h
      have := hreveal b hb
      have := (rangeOf_isNone b).mp hnone
      omega
  have hslot : (⟨target.toNat, hrange.2⟩ : SlotIndex) = i := Fin.ext htarget
  unfold State.serveSetCredential
  rw [hkind, hstate]
  dsimp only
  rw [dif_pos hrange, if_neg hlists, hslot] <;> rfl

theorem State.serveSetCredential_invalid (u : State) (v : Service) (ownerSecret secret : Secret)
    (h : target.toNat = 0 ∨ 8 ≤ target.toNat ∨ kind = 0 ∨ 4 ≤ kind.toNat ∨ 2 ≤ state.toNat ∨ 16 < reveal.length ∨
      ∃ b ∈ reveal, 16 ≤ b.toNat) :
    u.serveSetCredential v ownerSecret target kind state secret reveal = u.answerPlain .invalid := by
  unfold State.serveSetCredential
  split
  · rename_i k st hkind hstate
    have hk : ¬ (kind = 0 ∨ 4 ≤ kind.toNat) := fun hk => by
      rw [targetKindOf_none hk] at hkind
      cases hkind
    have hs : ¬ 2 ≤ state.toNat := fun hs => by
      rw [targetStateOf_none hs] at hstate
      cases hstate
    split
    · rename_i htarget
      refine if_pos ?_
      rcases h with h | h | h | h | h | h | ⟨b, hb, h⟩
      · omega
      · omega
      · exact absurd (.inl h) hk
      · exact absurd (.inr h) hk
      · exact absurd h hs
      · exact .inl h
      · exact .inr (List.any_eq_true.mpr ⟨b, hb, (rangeOf_isNone b).mpr h⟩)
    · rfl
  · rfl

end

/-! ## SET LOCKS (R71, R73) -/

theorem lockOf_eq_some {b : Byte} {x : Bool} : lockOf b = some x ↔ b.toNat = x.toNat := by
  have hzero : b = 0 ↔ b.toNat = 0 := BitVec.toNat_inj (y := (0 : Byte)).symm
  have hone : b = 1 ↔ b.toNat = 1 := BitVec.toNat_inj (y := (1 : Byte)).symm
  unfold lockOf
  by_cases h0 : b = 0
  · rw [if_pos h0, hzero.mp h0]
    cases x <;> simp
  · rw [if_neg h0]
    by_cases h1 : b = 1
    · rw [if_pos h1, hone.mp h1]
      cases x <;> simp
    · rw [if_neg h1]
      rw [hzero] at h0
      rw [hone] at h1
      cases x <;> simp [h0, h1]

theorem lockOf_eq_none {b : Byte} (h : 2 ≤ b.toNat) : lockOf b = none := by
  have hne : b ≠ 0 ∧ b ≠ 1 := by
    refine ⟨?_, ?_⟩ <;> rintro rfl <;> revert h <;> decide
  rw [lockOf, if_neg hne.1, if_neg hne.2]

theorem lockChangeOf_eq_none {e : LockEntry} (h : 16 ≤ e.range.toNat ∨ 2 ≤ e.readLock.toNat ∨ 2 ≤ e.writeLock.toNat) :
    lockChangeOf e = none := by
  unfold lockChangeOf
  split
  · rename_i r a b hr ha hb
    rcases h with h | h | h
    · rw [rangeOf_eq_none.mpr h] at hr
      cases hr
    · rw [lockOf_eq_none h] at ha
      cases ha
    · rw [lockOf_eq_none h] at hb
      cases hb
  · rfl

theorem lockChanges_eq_none {es : List LockEntry} {e : LockEntry} (he : e ∈ es) (h : lockChangeOf e = none) :
    lockChanges es = none := by
  induction es with
  | nil => cases he
  | cons x es ih =>
    unfold lockChanges
    rcases List.mem_cons.mp he with rfl | he
    · rw [h]
    · rw [ih he]
      cases lockChangeOf x <;> rfl

/-- Entries whose codes are in range read as the changes that give the same numbers. -/
theorem lockChanges_eq_some {es : List LockEntry} {cs : List LockChange}
    (h : es.map (fun e => (e.range.toNat, e.readLock.toNat, e.writeLock.toNat)) =
      cs.map (fun c => (c.range.val, c.locks.readLock.toNat, c.locks.writeLock.toNat))) : lockChanges es = some cs := by
  induction es generalizing cs with
  | nil =>
    cases cs with
    | nil => rfl
    | cons c cs => cases h
  | cons e es ih =>
    cases cs with
    | nil => cases h
    | cons c cs =>
      rw [List.map_cons, List.map_cons, List.cons.injEq, Prod.mk.injEq, Prod.mk.injEq] at h
      obtain ⟨⟨hrange, hread, hwrite⟩, hrest⟩ := h
      unfold lockChanges lockChangeOf
      rw [rangeOf_eq_some.mpr hrange, lockOf_eq_some.mpr hread, lockOf_eq_some.mpr hwrite, ih hrest]

/-- The state after the changes of SET LOCKS, which name no range twice, have been made. -/
def State.withChanges (s : State) (cs : List LockChange) : State :=
  { s with
    locks := Vector.ofFn fun r : RangeIndex =>
      match cs.find? fun c => decide (c.range = r) with
      | some c => c.locks
      | none => s.locks[r]
    slots := Vector.ofFn fun r : RangeIndex =>
      if (cs.any fun c => decide (c.range = r) && decide (c.locks = Locks.both)) && decide (s.locks[r] ≠ Locks.both)
      then s.slots[r].bothLocked else s.slots[r] }

theorem State.withChanges_calm {s : State} (h : s.Calm) (hidle : s.writer = ⟨none, []⟩) (cs : List LockChange) :
    (s.withChanges cs).Calm ∧ (s.withChanges cs).writer = ⟨none, []⟩ := by
  unfold State.withChanges
  exact ⟨h, hidle⟩

theorem State.withChanges_passed (s : State) (t : Tag) (e : Envelope) (cs : List LockChange) :
    (s.passed t e).withChanges cs = (s.withChanges cs).passed t e := by
  unfold State.withChanges State.passed
  rfl

theorem State.withChanges_nil (s : State) : s.withChanges [] = s := by
  have hlocks : (s.withChanges []).locks = s.locks := vector_ext fun r => vector_get_ofFn _ r
  have hslots : (s.withChanges []).slots = s.slots := vector_ext fun r => vector_get_ofFn _ r
  calc s.withChanges [] = { s with locks := (s.withChanges []).locks, slots := (s.withChanges []).slots } := rfl
    _ = s := by rw [hlocks, hslots]

/-- One change of SET LOCKS. -/
theorem State.applyLocks_eq (s : State) (c : LockChange) : s.applyLocks c = { s with
    locks := s.locks.set c.range c.locks
    slots := if c.locks = Locks.both ∧ s.locks[c.range] ≠ Locks.both
      then s.slots.set c.range s.slots[c.range].bothLocked else s.slots } := by
  unfold State.applyLocks
  by_cases hsame : c.locks = s.locks[c.range]
  · have hlocks : s.locks.set c.range c.locks = s.locks := vector_ext fun r => by
      rw [vector_get_set]
      split
      · rename_i h
        rw [← h, hsame]
      · rfl
    rw [if_pos hsame, hlocks, if_neg (by rintro ⟨h, hne⟩; exact hne (hsame.symm.trans h))]
  · rw [if_neg hsame]
    by_cases hboth : c.locks = Locks.both
    · rw [if_pos hboth, if_pos ⟨hboth, fun h => hsame (hboth.trans h.symm)⟩, hboth]
      rfl
    · rw [if_neg hboth, if_neg (fun h => hboth h.1)]
      rfl

/-- A change of SET LOCKS and then those of a list that does not name its range are the changes of both. -/
theorem State.withChanges_cons (s : State) {c : LockChange} {cs : List LockChange} (hfresh : ∀ x ∈ cs, x.range ≠ c.range) :
    (s.applyLocks c).withChanges cs = s.withChanges (c :: cs) := by
  have hfind : cs.find? (fun x => decide (x.range = c.range)) = none := by
    rw [List.find?_eq_none]
    exact fun x hx => by simpa using hfresh x hx
  have hany : (cs.any fun x => decide (x.range = c.range) && decide (x.locks = Locks.both)) = false := by
    rw [List.any_eq_false]
    exact fun x hx => by simp [hfresh x hx]
  have hlocks : ((s.applyLocks c).withChanges cs).locks = (s.withChanges (c :: cs)).locks := vector_ext fun r => by
    unfold State.withChanges
    rw [vector_get_ofFn, vector_get_ofFn, List.find?_cons, State.applyLocks_eq]
    dsimp only
    by_cases hr : c.range = r
    · subst hr
      rw [hfind, decide_eq_true rfl]
      dsimp only
      rw [vector_get_set, if_pos rfl]
    · rw [decide_eq_false hr]
      dsimp only
      rw [vector_get_set, if_neg hr]
  have hslots : ((s.applyLocks c).withChanges cs).slots = (s.withChanges (c :: cs)).slots := vector_ext fun r => by
    unfold State.withChanges
    rw [vector_get_ofFn, vector_get_ofFn, List.any_cons, State.applyLocks_eq]
    dsimp only
    by_cases hr : c.range = r
    · subst hr
      rw [hany, decide_eq_true rfl, Bool.false_and, if_neg (by decide), Bool.true_and, Bool.or_false]
      by_cases hboth : c.locks = Locks.both ∧ s.locks[c.range] ≠ Locks.both
      · rw [if_pos hboth, vector_get_set, if_pos rfl, if_pos (by simp [-Fin.getElem_fin, hboth])]
      · rw [if_neg hboth, if_neg (by rwa [Bool.and_eq_true, decide_eq_true_eq, decide_eq_true_eq])]
    · have hslot : (if c.locks = Locks.both ∧ s.locks[c.range] ≠ Locks.both
          then s.slots.set c.range s.slots[c.range].bothLocked else s.slots)[r] = s.slots[r] := by
        split
        · rw [vector_get_set, if_neg hr]
        · rfl
      rw [hslot, vector_get_set, if_neg hr, decide_eq_false hr, Bool.false_and, Bool.false_or]
  have hbase : s.applyLocks c = { s with locks := (s.applyLocks c).locks, slots := (s.applyLocks c).slots } := by
    rw [State.applyLocks_eq]
  calc (s.applyLocks c).withChanges cs
      = { s.applyLocks c with
          locks := ((s.applyLocks c).withChanges cs).locks, slots := ((s.applyLocks c).withChanges cs).slots } := rfl
    _ = { s with locks := (s.withChanges (c :: cs)).locks, slots := (s.withChanges (c :: cs)).slots } := by
      rw [hlocks, hslots, hbase]
    _ = s.withChanges (c :: cs) := rfl

theorem State.applyLocks_foldl (cs : List LockChange) (s : State) (hnodup : (cs.map LockChange.range).Nodup) :
    cs.foldl State.applyLocks s = s.withChanges cs := by
  induction cs generalizing s with
  | nil => exact s.withChanges_nil.symm
  | cons c cs ih =>
    rw [List.map_cons, List.nodup_cons] at hnodup
    rw [List.foldl_cons, ih _ hnodup.2]
    exact s.withChanges_cons fun x hx h => hnodup.1 (List.mem_map.mpr ⟨x, hx, h⟩)

theorem State.anyClearsUnkeyed_iff (s : State) (cs : List LockChange) :
    cs.any s.clearsUnkeyed = true ↔ ∃ c ∈ cs, s.slots[c.range].state ≠ .loaded ∧
      ((s.locks[c.range].readLock = true ∧ c.locks.readLock = false) ∨
        (s.locks[c.range].writeLock = true ∧ c.locks.writeLock = false)) := by
  rw [List.any_eq_true]
  refine exists_congr fun c => and_congr_right fun _ => ?_
  simp [-Fin.getElem_fin, State.clearsUnkeyed]

/-- Entries that name no range twice are read as changes that do not. -/
theorem nodup_changes {es : List LockEntry} {cs : List LockChange}
    (hval : (es.map LockEntry.range).map BitVec.toNat = (cs.map LockChange.range).map Fin.val)
    (h : (es.map LockEntry.range).Nodup) : (cs.map LockChange.range).Nodup :=
  have hbytes : ((cs.map LockChange.range).map Fin.val).Nodup := hval ▸ h.map BitVec.toNat_injective
  hbytes.of_map

/-- A list of index bytes of a USER that names a range not revealed (R71, R73). -/
theorem State.namesUnrevealed_iff {s : State} {i : SlotIndex} {reveals : RangeIndex → Bool}
    (h : ∀ r, reveals r = (s.credential i).wraps.any fun w =>
      decide (w.range = r) && decide (w.generation = s.copies.layout[r].generation)) (bs : List Byte) :
    s.namesUnrevealed i bs = true ↔
      (s.credential i).kind = .user ∧ ∃ b ∈ bs, ∀ r : RangeIndex, b.toNat = r.val → reveals r = false := by
  have hbyte : ∀ b, s.revealsByte i b = false ↔ ∀ r : RangeIndex, b.toNat = r.val → reveals r = false := by
    intro b
    unfold State.revealsByte
    simp only [Layout.holdsCurrent_eq, ← h]
    cases hb : rangeOf b with
    | none =>
      refine ⟨fun _ r hr => ?_, fun _ => rfl⟩
      rw [rangeOf_eq_some.mpr hr] at hb
      cases hb
    | some q =>
      refine ⟨fun hq r hr => ?_, fun hall => hall q (rangeOf_eq_some.mp hb)⟩
      rw [rangeOf_eq_some.mpr hr] at hb
      cases hb
      exact hq
  unfold State.namesUnrevealed
  rw [Bool.and_eq_true, decide_eq_true_eq, List.any_eq_true]
  simp only [Bool.not_eq_true', hbyte]

/-- An OWNER's list, and a USER's of revealed ranges alone, passes the test. -/
theorem State.namesUnrevealed_of_listed {s : State} {i : SlotIndex} {reveals : RangeIndex → Bool}
    (h : ∀ r, reveals r = (s.credential i).wraps.any fun w =>
      decide (w.range = r) && decide (w.generation = s.copies.layout[r].generation)) {bs : List Byte}
    (hlisted : (s.credential i).kind = .owner ∨
      ((s.credential i).kind = .user ∧ ∀ b ∈ bs, ∃ r : RangeIndex, b.toNat = r.val ∧ reveals r = true)) :
    s.namesUnrevealed i bs = false := by
  rw [Bool.eq_false_iff]
  intro hun
  obtain ⟨hkind, b, hb, hnone⟩ := (State.namesUnrevealed_iff h bs).mp hun
  rcases hlisted with howner | ⟨_, hall⟩
  · rw [howner] at hkind
    cases hkind
  · obtain ⟨r, hr, hreveals⟩ := hall b hb
    rw [hnone r hr] at hreveals
    cases hreveals

end Sys2Proof.Machine

/-- Settles O35. -/
theorem ownerReports : Obligations.OwnerReports := by
  unfold Obligations.OwnerReports
  intro s tag t auth i hready ha howner
  have hallows : ∀ r, requestAllows r (s.credential i).kind = decide ((s.credential i).kind = .owner) →
      requestAllows r (s.credential i).kind = true := fun r h => h.trans (decide_eq_true howner)
  refine ⟨?ranges, ?credentials⟩
  case ranges =>
    rintro w rfl
    refine ⟨_, allRanges.map s.rangeReport, rfl, ?_, by simp [allRanges], fun r => ?_⟩
    · refine hready.runs_answer (hready.runs_open (r := .queryRanges) rfl rfl ha nofun) (hallows _ rfl) fun v hv => ?_
      have hreport : (s.passed t ⟨.queryRanges, some (i, auth.secret)⟩).layoutReport = s.layoutReport := rfl
      unfold State.effect
      rw [hv]
      dsimp only
      rw [hreport, State.layoutReport, State.viewCapacity_eq]
      rfl
    · rw [getElem?_allRanges, State.rangeReport, shownIn_eq]
  case credentials =>
    refine ⟨_, allSlots.map fun j => s.copies.layout.credentialReport s.copies.credentials[j], rfl, ?_, by simp [allSlots],
      fun j => ?_⟩
    · refine hready.runs_answer (hready.runs_open (r := .queryCredentials) rfl rfl ha nofun) (hallows _ rfl) fun v hv => ?_
      unfold State.effect
      rw [hv]
      rfl
    · rw [getElem?_allSlots]
      obtain ⟨hnone, hsome⟩ := s.copies.layout.credentialReport_cases s.copies.credentials[j]
      refine ⟨fun h => congrArg some (hnone h), fun c h => ⟨fun hc => congrArg some ((hsome c h).1 hc), fun hc => ?_⟩⟩
      rw [(hsome c h).2 hc, Layout.currentWraps_eq]
      cases c.state with
      | none => rfl
      | some st => cases st <;> rfl

/-- Settles O41. -/
theorem setCredentialWritesTheSlot : Obligations.SetCredentialWritesTheSlot := by
  unfold Obligations.SetCredentialWritesTheSlot
  intro s tag t auth target kind state secret reveal hready ha howner hlength
  have hgate := hready.runs_open (r := .setCredential target kind state secret reveal) rfl
    (decide_eq_true (show reveal.length ≤ 255 from hlength)) ha nofun
  have hkind : requestAllows (.setCredential target kind state secret reveal) (s.credential 0).kind = true :=
    decide_eq_true howner
  have hcalm := hready.1
  obtain ⟨_, _, _, _, hidle, _⟩ := hready.2.2
  refine ⟨fun i st hi htarget hshort hreveal hst => ⟨fun hk => ⟨_, rfl, ?empty⟩, fun k taken keys hk htaken hkeys => ⟨_, rfl, ?keyed⟩⟩,
    fun hinvalid => ⟨_, rfl, ?invalid⟩⟩
  case invalid =>
    exact State.runs_acting hgate hkind hcalm hidle (State.serveSetCredential_invalid _ _ _ _ hinvalid)
  case empty =>
    have hstate : targetStateOf state = some st := by rcases hst with ⟨rfl, rfl⟩ | ⟨rfl, rfl⟩ <;> rfl
    have htarget' : targetKindOf kind = some .empty := by rw [hk]; rfl
    exact State.runs_credential hgate hkind hcalm hidle
      ((State.serveSetCredential_valid _ _ _ _ htarget' hstate hi htarget hshort hreveal).trans (if_pos rfl))
  case keyed =>
    have hstate : targetStateOf state = some st := by rcases hst with ⟨rfl, rfl⟩ | ⟨rfl, rfl⟩ <;> rfl
    have htarget' : targetKindOf kind = some k := by rcases hk with ⟨rfl, rfl⟩ | ⟨rfl, rfl⟩ <;> rfl
    have hne : k ≠ .empty := by rcases hk with ⟨_, rfl⟩ | ⟨_, rfl⟩ <;> decide
    rw [← s.takenReveal_eq k reveal] at htaken
    subst htaken
    refine (State.runs_credential (u := s.drawn) hgate hkind hcalm hidle ?_).trans rfl
    refine (State.serveSetCredential_valid _ _ _ _ htarget' hstate hi htarget hshort hreveal).trans ?_
    rw [if_neg hne]
    have hunwrap : unwrapAll
        (((s.passed t ⟨.setCredential target kind state secret reveal, some (0, auth.secret)⟩).credential 0).wrappingKey auth.secret)
        (((s.passed t ⟨.setCredential target kind state secret reveal, some (0, auth.secret)⟩).copies.layout.currentWraps
          ((s.passed t ⟨.setCredential target kind state secret reveal, some (0, auth.secret)⟩).credential 0).wraps).filter fun w =>
            ((s.passed t ⟨.setCredential target kind state secret reveal, some (0, auth.secret)⟩).takenReveal k reveal).contains
              w.range) = some keys := hkeys
    rw [hunwrap]
    rfl

/-- Settles O42. -/
theorem changeSecretRewraps : Obligations.ChangeSecretRewraps := by
  unfold Obligations.ChangeSecretRewraps
  refine ⟨fun s tag t auth i secret hready ha hkinds => ?_, unwrapAll_wrapKey⟩
  have hgate := hready.runs_open (r := .changeSecret secret) rfl rfl ha nofun
  have hkind : requestAllows (.changeSecret secret) (s.credential i).kind = true := by
    show (decide _ || decide _) = true
    simpa using hkinds
  have hcalm := hready.1
  obtain ⟨_, _, _, _, hidle, _⟩ := hready.2.2
  have hserve : ∀ e : Envelope, ∀ v, (s.passed t e).serveChangeSecret v i auth.secret secret =
      match s.unwrapCurrent i auth.secret with
      | none => (s.passed t e).mismatch i
      | some keys => (s.passed t e).drawn.awaitWrite v (.lastWrite .noFields)
          (.credential i (s.rewrapped (s.credential i) secret keys)) := fun _ _ => rfl
  refine ⟨fun keys hkeys => ⟨_, rfl, ?rewrapped⟩, fun hnone => ⟨_, rfl, ?mismatch⟩⟩
  case rewrapped =>
    refine (State.runs_credential (u := s.drawn) hgate hkind hcalm hidle ((hserve _ _).trans ?_)).trans rfl
    rw [hkeys]
    rfl
  case mismatch =>
    refine (State.runs_acting (u := s.markCorrupt i) hgate hkind hcalm hidle ((hserve _ _).trans ?_)).trans rfl
    rw [hnone]
    rfl

/-- Settles O44. -/
theorem setLocksApplies : Obligations.SetLocksApplies := by
  unfold Obligations.SetLocksApplies
  intro s tag t auth i es reveals hready ha hlength hreveals
  have hgate : runs (s.offer (.request tag auth (.setLocks es))) [.storeWriteCompletion, .storeWriteCompletion] =
      .next (s.pastGate t (.setLocks es) i auth.secret) := by
    refine hready.runs_pastGate rfl (decide_eq_true (show es.length ≤ 255 from hlength)) ?_ nofun nofun nofun
    rcases ha with ha | ha <;> rw [ha] <;> decide
  have hallows : (s.credential i).kind = .owner ∨ (s.credential i).kind = .user →
      requestAllows (.setLocks es) (s.credential i).kind = true := fun h => by
    show (decide _ || decide _) = true
    simpa using h
  have hcalm := hready.1
  obtain ⟨_, _, _, _, hidle, _⟩ := hready.2.2
  refine ⟨fun huser hun => ⟨_, rfl, ?unrevealed⟩, fun hlisted => ?listed⟩
  case unrevealed =>
    have hnames : s.namesUnrevealed i (es.map LockEntry.range) = true := by
      obtain ⟨e, he, hnone⟩ := hun
      exact (State.namesUnrevealed_iff hreveals _).mpr ⟨huser, e.range, List.mem_map.mpr ⟨e, he, rfl⟩, hnone⟩
    exact State.runs_acting hgate (hallows (.inr huser)) hcalm hidle (if_pos hnames)
  case listed =>
    have hnames : s.namesUnrevealed i (es.map LockEntry.range) = false := by
      refine State.namesUnrevealed_of_listed hreveals (hlisted.imp_right fun ⟨hk, hall⟩ => ⟨hk, fun b hb => ?_⟩)
      obtain ⟨e, he, rfl⟩ := List.mem_map.mp hb
      exact hall e he
    have hkind := hallows (hlisted.imp_right And.left)
    have hserve : ∀ e : Envelope, (s.passed t e).serveSetLocks i es =
        if es.length = 0 ∨ 16 < es.length ∨ ¬ (es.map LockEntry.range).Nodup then (s.passed t e).answerPlain .invalid
        else
          match lockChanges es with
          | none => (s.passed t e).answerPlain .invalid
          | some cs => if cs.any s.clearsUnkeyed then (s.passed t e).answerPlain .locked
              else (cs.foldl State.applyLocks (s.passed t e)).answerPlain .good := fun e =>
      if_neg (by rw [show (s.passed t e).namesUnrevealed i (es.map LockEntry.range) = _ from hnames]; decide)
    refine ⟨fun hbad => ⟨_, rfl, ?invalid⟩, fun cs hpos hshort hnodup hcodes => ?read⟩
    case invalid =>
      refine State.runs_acting hgate hkind hcalm hidle ((hserve _).trans ?_)
      rcases hbad with h | h | h | ⟨e, he, h⟩
      · exact if_pos (.inl (by rw [h]; rfl))
      · exact if_pos (.inr (.inl h))
      · exact if_pos (.inr (.inr h))
      · rw [lockChanges_eq_none he (lockChangeOf_eq_none h)]
        exact ite_id _
    case read =>
      have hread : ∀ e : Envelope, (s.passed t e).serveSetLocks i es =
          if cs.any s.clearsUnkeyed then (s.passed t e).answerPlain .locked
          else (cs.foldl State.applyLocks (s.passed t e)).answerPlain .good := fun e => by
        rw [hserve, if_neg (by rintro (h | h | h) <;> [omega; omega; exact h hnodup]), lockChanges_eq_some hcodes]
      have hclears := s.anyClearsUnkeyed_iff cs
      refine ⟨fun hcleared => ⟨_, rfl, ?locked⟩, fun hkept => ⟨_, rfl, ?applied⟩⟩
      case locked => exact State.runs_acting hgate hkind hcalm hidle ((hread _).trans (if_pos (hclears.mpr hcleared)))
      case applied =>
        have hnone : ¬ cs.any s.clearsUnkeyed = true := fun h => by
          obtain ⟨c, hc, hslot, hcleared⟩ := hclears.mp h
          rcases hkept c hc with hloaded | ⟨hr, hw⟩
          · exact hslot hloaded
          · rcases hcleared with ⟨h1, h2⟩ | ⟨h1, h2⟩
            · rw [hr h1] at h2
              cases h2
            · rw [hw h1] at h2
              cases h2
        have hfirst := congrArg (List.map Prod.fst) hcodes
        have hranges : (cs.map LockChange.range).Nodup := nodup_changes (by simpa [Function.comp_def] using hfirst) hnodup
        obtain ⟨hchanged, hwriter⟩ := State.withChanges_calm hcalm hidle cs
        refine State.runs_acting hgate hkind hchanged hwriter ((hread _).trans ((if_neg hnone).trans ?_))
        rw [State.applyLocks_foldl cs _ hranges, State.withChanges_passed]
        rfl

end

section
/-! Proofs/StartUp.lean: the Store Writer (R87 to R89), the power cycle with its scan (R90 to R94, R165, R166), the decisions of the
power-up sequence (R118, R167, R168) and the enclosure policy (R76, R144, R145). -/

open Sys2Proof Sys2Proof.Machine

namespace Sys2Proof.Machine

/-! ## The Store Writer (R87, R88) -/

/-- What the completion of a write leaves, the writer being free (R82, R87). -/
theorem State.landWrite_eq {s u : State} {c : Content} (hawake : s.access ≠ .dormant)
    (h : (∃ i x, c = .credential i x ∧ u = s.withCredential i x) ∨ (∃ l, c = .layout l ∧ u = s.withLayout l) ∨
      (∃ p, c = .policy p ∧ u = s.withPolicy p) ∨ (∃ n, c = .counters n ∧ u = s.withCounters n) ∨
      (∃ x, c = .wipe x ∧ u = { s with
        store := { s.store with wipe := .intact x }, copies := { s.copies with wipe := x } })) (ws : List Waiter) :
    s.landWrite ⟨c, ws⟩ = { u with writer := ⟨none, s.writer.queue⟩ } := by
  rcases h with ⟨i, x, rfl, rfl⟩ | ⟨l, rfl, rfl⟩ | ⟨p, rfl, rfl⟩ | ⟨n, rfl, rfl⟩ | ⟨x, rfl, rfl⟩
  case inr.inl =>
    have hsession : s.sessionAccess = s.access := if_neg hawake
    unfold State.landWrite State.takeContent State.takeLayout State.withLayout
    dsimp only
    split
    · rename_i hlocked
      rw [if_pos (by rw [← hsession]; exact hlocked)]
      rfl
    · rename_i hlocked
      rw [if_neg (by rw [← hsession]; exact hlocked)]
      rfl
  all_goals rfl

theorem Writer.beginNext_idle (q : List RecordWrite) : Writer.beginNext ⟨none, q⟩ = ⟨q.head?, q.tail⟩ := by
  cases q <;> rfl

/-- The place of a record among the twelve that the writer writes. -/
def RecordId.place : RecordId → Fin 12
  | .credential i => ⟨i.val, by omega⟩
  | .layout => 8
  | .policy => 9
  | .counters => 10
  | .wipe => 11

theorem RecordId.place_injective : Function.Injective RecordId.place := by
  intro a b h
  cases a with
  | credential i =>
    have hi := i.isLt
    cases b with
    | credential j => exact congrArg _ (Fin.ext (congrArg (fun p : Fin 12 => p.val) h))
    | _ =>
      have := congrArg Fin.val h
      simp only [RecordId.place] at this
      omega
  | _ =>
    cases b with
    | credential j =>
      have hj := j.isLt
      have := congrArg Fin.val h
      simp only [RecordId.place] at this
      omega
    | _ => first | rfl | exact absurd h (by decide)

theorem records_le_twelve {l : List RecordId} (h : l.Nodup) : l.length ≤ 12 := by
  have := (h.map RecordId.place_injective).length_le_card
  rwa [List.length_map, Fintype.card_fin] at this

/-- The records written by a queue that a request has joined. -/
theorem joinQueue_records (c : Content) (who : List Waiter) (q : List RecordWrite) :
    (joinQueue c who q).map (fun w => w.content.record) =
      if c.record ∈ q.map (fun w => w.content.record) then q.map fun w => w.content.record
      else (q.map fun w => w.content.record) ++ [c.record] := by
  have hany : (q.any fun w => decide (w.content.record = c.record)) = true ↔ c.record ∈ q.map fun w => w.content.record := by
    simp only [List.any_eq_true, List.mem_map, decide_eq_true_eq]
  unfold joinQueue
  by_cases h : c.record ∈ q.map fun w => w.content.record
  · rw [if_pos (hany.mpr h), if_pos h, List.map_map]
    refine List.map_congr_left fun w _ => ?_
    dsimp only [Function.comp]
    split
    · rename_i hw
      exact hw.symm
    · rfl
  · rw [if_neg (fun hq => h (hany.mp hq)), if_neg h, List.map_append]
    rfl

theorem joinQueue_nodup {c : Content} {who : List Waiter} {q : List RecordWrite} (h : (q.map fun w => w.content.record).Nodup) :
    ((joinQueue c who q).map fun w => w.content.record).Nodup := by
  rw [joinQueue_records]
  split
  · exact h
  · rename_i hc
    exact List.Nodup.append h (List.nodup_singleton _) (by simpa using hc)

/-- A queued write of another record stays as it is. -/
theorem mem_joinQueue_of_ne {c : Content} {who : List Waiter} {q : List RecordWrite} {w : RecordWrite} (hw : w ∈ q)
    (hne : w.content.record ≠ c.record) : w ∈ joinQueue c who q := by
  unfold joinQueue
  split
  · exact List.mem_map.mpr ⟨w, hw, if_neg hne⟩
  · exact List.mem_append_left _ hw

/-- A request for a queued record replaces its content, and those who awaited it still do. -/
theorem mem_joinQueue_replaced {c : Content} (who : List Waiter) {q : List RecordWrite} {w : RecordWrite} (hw : w ∈ q)
    (hrecord : w.content.record = c.record) : ⟨c, w.waiters ++ who⟩ ∈ joinQueue c who q := by
  have hany : (q.any fun w => decide (w.content.record = c.record)) = true :=
    List.any_eq_true.mpr ⟨w, hw, decide_eq_true hrecord⟩
  unfold joinQueue
  rw [if_pos hany]
  exact List.mem_map.mpr ⟨w, hw, if_pos hrecord⟩

theorem State.requestWrite_queued {s : State} (hbusy : s.writer ≠ ⟨none, []⟩) (c : Content) (who : List Waiter) :
    s.requestWrite c who = { s with writer := ⟨s.writer.current, joinQueue c who s.writer.queue⟩ } := by
  refine if_neg fun h => hbusy ?_
  obtain ⟨hcurrent, hqueue⟩ := h
  calc s.writer = ⟨s.writer.current, s.writer.queue⟩ := rfl
    _ = ⟨none, []⟩ := by rw [hcurrent, hqueue]

/-! ## Power loss (R90, R165, R181) -/

/-- The fields of a store with a record holding new content whole. -/
theorem Store.put_fields (st : Store) (c : Content) :
    (st.put c).identity = st.identity ∧
      (∀ i : SlotIndex, (st.put c).credentials[i] = match c with
        | .credential j x => if j = i then .intact x else st.credentials[i]
        | _ => st.credentials[i]) ∧
      (st.put c).layout = (match c with | .layout l => .intact l | _ => st.layout) ∧
      (st.put c).policy = (match c with | .policy p => .intact p | _ => st.policy) ∧
      (st.put c).counters = (match c with | .counters n => .intact n | _ => st.counters) ∧
      (st.put c).wipe = (match c with | .wipe x => .intact x | _ => st.wipe) := by
  cases c with
  | credential j x => exact ⟨rfl, fun i => vector_get_set _ j i _, rfl, rfl, rfl, rfl⟩
  | _ => exact ⟨rfl, fun i => rfl, rfl, rfl, rfl, rfl⟩

/-- The fields of a store with a record torn. -/
theorem Store.tear_fields (st : Store) (r : RecordId) :
    (st.tear r).identity = st.identity ∧
      (∀ i : SlotIndex, (st.tear r).credentials[i] = if r = .credential i then .torn else st.credentials[i]) ∧
      (st.tear r).layout = (if r = .layout then .torn else st.layout) ∧
      (st.tear r).policy = (if r = .policy then .torn else st.policy) ∧
      (st.tear r).counters = (if r = .counters then .torn else st.counters) ∧
      (st.tear r).wipe = (if r = .wipe then .torn else st.wipe) := by
  cases r with
  | credential j =>
    refine ⟨rfl, fun i => ?_, rfl, rfl, rfl, rfl⟩
    simp only [RecordId.credential.injEq]
    exact vector_get_set _ j i _
  | _ => exact ⟨rfl, fun i => rfl, rfl, rfl, rfl, rfl⟩

section
variable {s : State} {w : RecordWrite} (hw : s.writer.current = some w)
include hw

theorem State.storeAfterLoss_new : s.storeAfterLoss .newContent = s.store.put w.content := by
  unfold State.storeAfterLoss
  rw [hw]

theorem State.storeAfterLoss_torn : s.storeAfterLoss .torn =
    if s.store.firstPurge w.content && !Config.firstPurgeTears then s.store else s.store.tear w.content.record := by
  unfold State.storeAfterLoss
  rw [hw]

end

theorem State.storeAfterLoss_kept {s : State} {cut : WriteCut} (h : s.writer.current = none ∨ cut = .oldContent) :
    s.storeAfterLoss cut = s.store := by
  unfold State.storeAfterLoss
  rcases h with h | rfl
  · rw [h]
  · cases s.writer.current <;> rfl

theorem exec_powerLoss {s : State} (hpower : s.power ≠ .off) (cut : WriteCut) :
    exec (.powerLoss cut) s = .next (State.unpowered (s.storeAfterLoss cut) s.vector s.draws s.pending) :=
  congrArg Host.Outcome.next (if_neg hpower)

/-! ## Power-good and the scan (R91 to R94, R166) -/

/-- The power-up sequence's first phase, by the number of records that are repaired. -/
def scanPhase (store : Store) : Power := if repairCount store = 0 then .selfTest else .scan (repairCount store)

/-- The repairs being written: the counters, then the wipe record (R91). -/
def repairs (store : Store) : Writer :=
  match countersTorn store, wipeTorn store with
  | true, true => ⟨some ⟨.counters (scanCopies store).counters, [.sequence]⟩, [⟨.wipe (scanCopies store).wipe, [.sequence]⟩]⟩
  | true, false => ⟨some ⟨.counters (scanCopies store).counters, [.sequence]⟩, []⟩
  | false, true => ⟨some ⟨.wipe (scanCopies store).wipe, [.sequence]⟩, []⟩
  | false, false => ⟨none, []⟩

theorem State.scanStore_eq (s : State) (hidle : s.writer = ⟨none, []⟩) :
    s.scanStore = { s with
      copies := scanCopies s.store, scan := scanResult s.store, power := .scan (repairCount s.store), writer := repairs s.store } := by
  unfold State.scanStore State.requestWriteIf State.requestWrite repairs
  cases countersTorn s.store <;> cases wipeTorn s.store <;> simp [hidle, joinQueue]

theorem State.powerUp_eq (s : State) (level : Level) :
    s.powerUp level = { State.unpowered s.store s.vector s.draws s.pending with
      level := level, power := scanPhase s.store, copies := scanCopies s.store, scan := scanResult s.store, writer := repairs s.store
      engine := ⟨(scanCopies s.store).wipe.job, none⟩ } := by
  unfold State.powerUp
  rw [State.scanStore_eq _ rfl]
  unfold scanPhase
  by_cases h : repairCount s.store = 0
  · rw [if_pos h, if_pos h]
    rfl
  · rw [if_neg h, if_neg h]
    rfl

theorem WipeRecord.job_eq_none (w : WipeRecord) : w.job = none ↔ w.phase = .none := by
  unfold WipeRecord.job
  by_cases h : w.phase = .none <;> simp [h]

/-- The two results of the scan besides the wipe phase (R91). -/
theorem scanResult_storeFault (st : Store) :
    (scanResult st).storeFault = true ↔ st.policy.read Policy.legal = none ∨
      st.layout.read (fun l => l.legal st.identity.capacity) = none ∨
      st.credentials[(0 : SlotIndex)].read (fun c => c.legal 0) = none := by
  have hcredential : (scanCredential st 0).corrupt = true ↔ st.credentials[(0 : SlotIndex)].read (fun c => c.legal 0) = none := by
    unfold scanCredential
    cases st.credentials[(0 : SlotIndex)].read fun c => c.legal 0 <;> simp
  unfold scanResult layoutTorn policyTorn
  simp only [Bool.or_eq_true, Option.isNone_iff_eq_none, hcredential]
  tauto

/-! ## The last step of the power-up sequence (R103, R168) -/

/-- The back-off timer after a restart: running for a count above the free tries, else as it was (R103). -/
theorem State.startBackoff_eq (s : State) : s.startBackoff = { s with
    backoff := if s.copies.policy.freeTries < s.copies.counters.attempts
      then some (2 ^ min (s.copies.counters.attempts - s.copies.policy.freeTries - 1) 10) else s.backoff } := by
  unfold State.startBackoff
  split
  · rfl
  · rfl

/-! ## The enclosure policy (R76, R144, R145) -/

/-- Where the enclosure policy has no effect on the part. -/
abbrev State.Unmoved (s : State) : Prop :=
  s.provisioning = .blank ∨ s.copies.policy.enclosure = .ignore ∨
    (s.copies.policy.enclosure = .lock ∧ s.sessionAccess ≠ .opened ∧ s.sessionAccess ≠ .staged) ∨
    (s.copies.policy.enclosure = .wipe ∧ s.engine.job.isSome = true)

theorem State.enclosureLock_none {s : State} (h : s.sessionAccess ≠ .opened ∧ s.sessionAccess ≠ .staged) : s.enclosureLock = s := by
  unfold State.enclosureLock
  split
  · exact absurd ‹_› h.1
  · exact absurd ‹_› h.2
  · rfl

theorem State.applyOpening_unmoved {s : State} (h : s.Unmoved) : s.applyOpening = { s with latched := false } := by
  unfold State.applyOpening
  by_cases hblank : s.provisioning = .blank
  · rw [if_pos hblank]
  rw [if_neg hblank]
  rcases h with h | h | ⟨h, hsession⟩ | ⟨h, hjob⟩
  · exact absurd h hblank
  · rw [h]
  · rw [h]
    exact State.enclosureLock_none (s := { s with latched := false }) hsession
  · rw [h]
    exact if_pos hjob

theorem State.applyOpening_lock {s : State} (hblank : s.provisioning ≠ .blank) (h : s.copies.policy.enclosure = .lock) :
    s.applyOpening = ({ s with latched := false } : State).enclosureLock := by
  unfold State.applyOpening
  rw [if_neg hblank, h]

theorem State.applyOpening_wipe {s : State} (hblank : s.provisioning ≠ .blank) (h : s.copies.policy.enclosure = .wipe) :
    s.applyOpening = ({ s with latched := false } : State).triggerWipe .enclosure := by
  unfold State.applyOpening
  rw [if_neg hblank, h]

theorem State.latched_false {s : State} (h : s.latched = false) : ({ s with latched := false } : State) = s := by
  rw [← h]

/-- An opening, latched or not, that the policy does not act on. -/
theorem State.applyOpening_latched {s : State} (h : s.latched = true → s.Unmoved) :
    (if s.latched then s.applyOpening else s) = { s with latched := false } := by
  by_cases hl : s.latched = true
  · rw [if_pos hl, State.applyOpening_unmoved (h hl)]
  · rw [if_neg hl, State.latched_false (Bool.not_eq_true _ ▸ hl)]

/-! ## Access states entered (R11, R168) -/

theorem State.sessionAccess_awake {s : State} (hawake : s.access ≠ .dormant) : s.sessionAccess = s.access := if_neg hawake

theorem State.enter_unlatched {s : State} (hawake : s.access ≠ .dormant) (hlatch : s.latch = false) (a : Access) :
    s.enter a = { s with access := a } := by
  have hkept : (s.latch && decide (a = .locked)) = s.latch := by
    rw [hlatch]
    rfl
  refine (if_neg hawake).trans ?_
  rw [hkept]

/-- The part past its power-up sequence, its back-off restarted (R103, R168). -/
def State.restarted (s : State) : State :=
  { s with
    power := .running
    backoff := if s.copies.policy.freeTries < s.copies.counters.attempts
      then some (2 ^ min (s.copies.counters.attempts - s.copies.policy.freeTries - 1) 10) else s.backoff }

/-- The last step in BLANK, LOCKED and FAULT, in which the back-off is restarted. -/
theorem State.lastStep_restarts {s : State} (ha : s.access = .blank ∨ s.access = .locked ∨ s.access = .fault) :
    s.lastStep = if s.latched then s.restarted.applyOpening else s.restarted := by
  have hback : (if s.access = .blank ∨ s.access = .locked ∨ s.access = .fault then s.startBackoff else s) = s.startBackoff :=
    if_pos ha
  unfold State.lastStep
  rw [hback, State.startBackoff_eq]
  rfl

/-- The last step in WIPING. -/
theorem State.lastStep_wiping {s : State} (ha : s.access = .wiping) :
    s.lastStep = if s.latched then ({ s with power := .running } : State).applyOpening else { s with power := .running } := by
  have hback : (if s.access = .blank ∨ s.access = .locked ∨ s.access = .fault then s.startBackoff else s) = s :=
    if_neg (by rw [ha]; decide)
  unfold State.lastStep
  rw [hback]

/-- Every range both-locked. -/
theorem State.bothLockAll_allRanges (s : State) : s.bothLockAll allRanges = s.allLocked := by
  have hmem : ∀ r : RangeIndex, decide (r ∈ allRanges) = true := fun r => decide_eq_true (List.mem_finRange r)
  rw [State.bothLockAll_eq]
  simp only [hmem]
  rfl

theorem State.markSessionEnd_eq (s : State) :
    s.markSessionEnd = { s.allLocked with pendingView := none, sessionEnd := true } := by
  unfold State.markSessionEnd
  rw [State.bothLockAll_allRanges]

theorem State.enclosureLock_session {s : State} (h : s.sessionAccess = .opened ∨ s.sessionAccess = .staged) :
    s.enclosureLock = { s.allLocked with pendingView := none, sessionEnd := true } := by
  rw [← State.markSessionEnd_eq]
  unfold State.enclosureLock
  rcases h with h | h <;> rw [h]

theorem State.allSlotsEmpty_iff (s : State) : s.allSlotsEmpty = true ↔ ∀ r : RangeIndex, s.slots[r].state = .empty := by
  unfold State.allSlotsEmpty
  rw [List.all_eq_true]
  exact ⟨fun h r => of_decide_eq_true (h r (List.mem_finRange r)), fun h r _ => decide_eq_true (h r)⟩

/-! ## Session ends without a request (R74 to R76) -/

/-- A calm part but for the session end that is pending on it. -/
theorem State.completeSessionEnd_calm {s : State} (h : s.Calm) (hlatch : s.access ≠ .dormant → s.latch = false) :
    ({ s with sessionEnd := true } : State).completeSessionEnd = s.inLocked := by
  have hstage : s.serviceStage ≠ some .holdEndSession := by
    rw [State.serviceStage, h.service]
    nofun
  have hentered : ({ s with sessionEnd := false } : State).enterLocked = s.inLocked := by
    unfold State.enterLocked State.inLocked
    by_cases hd : s.access = .dormant
    · rw [if_pos hd, if_pos hd, State.enter, if_pos (by exact hd), ← hd]
      rfl
    · rw [if_neg hd, if_neg hd, State.enter_unlatched (by exact hd) (by exact hlatch hd)]
      rfl
  unfold State.completeSessionEnd
  dsimp only
  rw [hentered]
  exact if_neg hstage

/-- A session end that no request waits for completes where every slot is EMPTY. -/
theorem State.settle_sessionEnd {s : State} (h : s.Calm) (hlatch : s.access ≠ .dormant → s.latch = false)
    (hempty : ∀ r : RangeIndex, s.slots[r].state = .empty) :
    ({ s with pendingView := none, sessionEnd := true } : State).settle = s.inLocked := by
  have hcalm : s.inLocked.Calm := ⟨h.power, h.service, h.queue, h.lane, h.dataLane, rfl, h.held⟩
  have hready : ({ s with pendingView := none, sessionEnd := true } : State).sessionEndReady = true :=
    (State.allSlotsEmpty_iff s).mpr hempty
  have henter : ({ s with pendingView := none, sessionEnd := true } : State).powerEnterReady = false := by
    simp [State.powerEnterReady, h.held]
  have hends : ({ s with pendingView := none, sessionEnd := true } : State).completeSessionEnd = s.inLocked :=
    State.completeSessionEnd_calm (s := { s with pendingView := none }) h hlatch
  refine (State.settle_step (t := s.inLocked) ?_).trans (State.settle_calm hcalm)
  unfold State.settleStep State.proceed State.channelReady
  rw [hready, henter, hends]
  rfl

/-- A session end that waits for a slot stays pending. -/
theorem State.settle_sessionEnd_waits {s : State} (h : s.Calm) (hused : ∃ r : RangeIndex, s.slots[r].state ≠ .empty) :
    ({ s with pendingView := none, sessionEnd := true } : State).settle = { s with pendingView := none, sessionEnd := true } := by
  obtain ⟨r, hr⟩ := hused
  have hhold : ({ s with pendingView := none, sessionEnd := true } : State).holdReady = false := by
    simp [State.holdReady, State.serviceStage, h.service]
  refine State.settle_of_settled (State.settleStep_none ?_ (.inr h.queue) h.held h.lane h.dataLane)
  unfold State.channelReady
  rw [hhold, Bool.or_false]
  exact Bool.eq_false_iff.mpr fun hready => hr ((State.allSlotsEmpty_iff s).mp hready r)

theorem State.Calm.allLocked {s : State} (h : s.Calm) : s.allLocked.Calm := by
  unfold State.allLocked
  exact h

section
variable {s : State} (h : s.Calm) (hsession : s.sessionAccess = .opened ∨ s.sessionAccess = .staged)
include h hsession

/-- The LOCK policy in a session whose slots it empties (R76). -/
theorem State.enclosureLock_ends (hlatch : s.access ≠ .dormant → s.latch = false)
    (hempty : ∀ r : RangeIndex, s.allLocked.slots[r].state = .empty) : s.enclosureLock.settle = s.allLocked.inLocked := by
  rw [State.enclosureLock_session hsession]
  exact State.settle_sessionEnd h.allLocked hlatch hempty

/-- The LOCK policy in a session with a slot in use (R76). -/
theorem State.enclosureLock_waits (hused : ∃ r : RangeIndex, s.allLocked.slots[r].state ≠ .empty) :
    s.enclosureLock.settle = { s.allLocked with pendingView := none, sessionEnd := true } := by
  rw [State.enclosureLock_session hsession]
  exact State.settle_sessionEnd_waits h.allLocked hused

end

/-- The part with the level and the notice of an opening, which is applied (R144). -/
def State.openingNoted (s : State) : State :=
  { s with level := .opened, latched := false, notices := { s.notices with enclosureOpened := true } }

theorem State.Quiet.settle {s : State} (h : s.Quiet) : s.settle = s := by
  obtain ⟨hservice, hqueue, hlane, hdata, hend, hheld⟩ := h
  refine State.settle_of_settled (State.settleStep_none ?_ (.inr hqueue) hheld hlane hdata)
  simp [State.channelReady, State.sessionEndReady, State.holdReady, State.serviceStage, hservice, hend]

/-- An event of a powered part on which nothing waits. -/
theorem State.event_quiet {s : State} (hservice : s.service = none) (hpower : s.power ≠ .off) {f : State → State} {u w : State}
    (hf : f s = u) (hu : u.settle = w) : s.event f = w := by
  rw [State.event_of_owes (State.owesAnswer_of_service hservice) hpower, hf, hu]

/-- An opening of a closed line, applied at once (R144). -/
theorem exec_opening {s w : State} (h : s.Calm) (hclosed : s.level = .closed)
    (hw : ({ s.openingNoted with latched := true } : State).applyOpening.settle = w) :
    exec .enclosureOpening s = .next w := by
  have hopening : s.opening = ({ s.openingNoted with latched := true } : State).applyOpening := if_pos h.power
  exact congrArg Host.Outcome.next
    (State.event_quiet h.service (by rw [h.power]; decide) ((if_pos hclosed).trans hopening) hw)

end Sys2Proof.Machine

/-- Settles O51. -/
theorem storeWriterWorks : Obligations.StoreWriterWorks := by
  unfold Obligations.StoreWriterWorks
  refine ⟨fun s hcalm => ⟨fun w q u hwriter hwaiters hawake hcontent => ?completes, fun hidle => ?idle⟩,
    fun s c who hnodup => ⟨fun hidle => ?begins, fun hbusy => ?joins⟩⟩
  case completes =>
    refine congrArg Host.Outcome.next (State.event_calm_eq hcalm ?_ ?_)
    · rw [hwriter]
      unfold State.writeCompletes
      dsimp only
      rw [hwaiters]
      obtain ⟨c, ws⟩ := w
      rw [State.landWrite_eq (u := u) hawake hcontent ws, hwriter, List.foldl_nil, Writer.beginNext_idle]
    · rcases hcontent with ⟨i, x, _, rfl⟩ | ⟨l, _, rfl⟩ | ⟨p, _, rfl⟩ | ⟨n, _, rfl⟩ | ⟨x, _, rfl⟩ <;> exact hcalm
  case idle =>
    refine congrArg Host.Outcome.next (State.event_calm_eq hcalm ?_ hcalm)
    rw [hidle]
  case begins => exact if_pos (by rw [hidle]; exact ⟨rfl, rfl⟩)
  case joins =>
    have hjoined := joinQueue_nodup (c := c) (who := who) hnodup
    refine ⟨joinQueue c who s.writer.queue, State.requestWrite_queued hbusy c who, hjoined, ?_, fun hnew => ?_, fun hqueued => ⟨?_, ?_⟩,
      fun w hw hne => mem_joinQueue_of_ne hw hne⟩
    · simpa using records_le_twelve hjoined
    · exact if_neg (by simpa using hnew)
    · rw [joinQueue_records, if_pos hqueued]
    · obtain ⟨w, hw, hrecord⟩ := List.mem_map.mp hqueued
      exact ⟨w, hw, hrecord, mem_joinQueue_replaced who hw hrecord⟩

/-- Settles O52. -/
theorem powerCycle : Obligations.PowerCycle := by
  unfold Obligations.PowerCycle
  refine ⟨fun s cut => ⟨fun hpower => ⟨fun h => ?kept, fun w x y hw hc hx hy hnone hcut htears => ?early, fun w hw htears => ?cut⟩,
    fun hoff => congrArg Host.Outcome.next (if_pos hoff)⟩, fun s level => ⟨fun hoff => ?good, fun hon => congrArg Host.Outcome.next (if_neg hon)⟩⟩
  case kept => rw [exec_powerLoss hpower, State.storeAfterLoss_kept h]
  case early =>
    have hfirst : s.store.firstPurge w.content = true := (Store.firstPurge_iff _ _).mpr ⟨x, y, hc, hx, hy, hnone⟩
    rw [exec_powerLoss hpower, hcut, State.storeAfterLoss_torn hw, hfirst, htears]
    rfl
  case cut =>
    refine ⟨s.storeAfterLoss cut, fun _ => exec_powerLoss hpower cut, ?_⟩
    cases cut with
    | oldContent =>
      rw [State.storeAfterLoss_kept (.inr rfl)]
      simp
    | newContent =>
      rw [State.storeAfterLoss_new hw]
      obtain ⟨hidentity, hcredentials, hlayout, hpolicy, hcounters, hwipe⟩ := s.store.put_fields w.content
      rw [hidentity, hlayout, hpolicy, hcounters, hwipe]
      refine ⟨rfl, fun i => ?_, ?_⟩
      · rw [hcredentials]
        cases w.content <;> simp [Content.record]
      · cases w.content <;> simp [Content.record]
    | torn =>
      have hkept : (s.store.firstPurge w.content && !Config.firstPurgeTears) = false := by
        cases hfirst : s.store.firstPurge w.content with
        | false => rfl
        | true =>
          obtain ⟨x, y, hc, hx, hy, hnone⟩ := (Store.firstPurge_iff _ _).mp hfirst
          rw [htears x y hc hx hy hnone rfl]
          rfl
      rw [State.storeAfterLoss_torn hw, hkept]
      obtain ⟨hidentity, hcredentials, hlayout, hpolicy, hcounters, hwipe⟩ := s.store.tear_fields w.content.record
      rw [if_neg (by decide), hidentity, hlayout, hpolicy, hcounters, hwipe]
      simp [hcredentials]
  case good =>
    refine ⟨s.powerUp level, congrArg Host.Outcome.next (if_pos hoff), ?_⟩
    rw [State.powerUp_eq]
    refine ⟨rfl, fun i => ?_, rfl, rfl, rfl, ?_, scanResult_storeFault s.store, rfl, WipeRecord.job_eq_none _, ?_⟩
    · show (Vector.ofFn (scanCredential s.store))[i] = _
      rw [vector_get_ofFn]
      rfl
    · show (scanCopies s.store).wipe = _
      unfold scanCopies repairedWipe policyTorn
      simp only [Option.isNone_iff_eq_none]
    · rintro counters wipe rfl rfl
      show scanPhase s.store = _ ∧ repairs s.store = _
      unfold scanPhase repairs repairCount countersTorn wipeTorn
      cases (s.store.counters.read Counters.legal).isNone <;>
        cases (s.store.wipe.read fun w => w.legal s.store.identity.capacity).isNone <;> exact ⟨rfl, rfl⟩

/-- Settles O53. -/
theorem powerUpDecides : Obligations.PowerUpDecides := by
  unfold Obligations.PowerUpDecides
  rintro s dx dy x y b hx hy hquiet hpower haccess hlatched hidle hlatch hsanitize hout rfl
  obtain ⟨hservice, hqueue, hlane, hdata, hend, hheld⟩ := hquiet
  have hexec : ∀ {u : State}, u.Quiet → s.testEnds (s.vector.passes dx dy) = u → exec (.selfTestEnd dx dy) s = .next u :=
    fun hu hends => congrArg Host.Outcome.next (State.event_quiet hservice (by rw [hpower]; decide) hends hu.settle)
  have hends : s.testEnds (s.vector.passes dx dy) =
      if s.vector.passes dx dy then s.powerUpDecision else (s.enterFault .selfTest).lastStep := if_pos hpower
  have hawake : s.access ≠ .dormant := by
    rw [haccess]
    decide
  have hunlatched : ∀ {u w : State}, u.latched = s.latched → (if u.latched then w.applyOpening else w) = w := fun hu =>
    if_neg (by rw [hu, hlatched]; decide)
  have hwiping : s.enterWiping = { s with access := .wiping, view := some View.empty, pendingView := none } :=
    congrArg (State.show · View.empty) (State.enter_unlatched hawake hlatch .wiping)
  have hfails : ∀ cause, (s.enterFault cause).lastStep = { s with
      power := .running, access := .fault, faultCause := some cause, view := some View.empty, pendingView := none
      backoff := if s.copies.policy.freeTries < s.copies.counters.attempts
        then some (2 ^ min (s.copies.counters.attempts - s.copies.policy.freeTries - 1) 10) else s.backoff } := fun cause => by
    unfold State.enterFault
    rw [State.enter_unlatched hawake hlatch, State.lastStep_restarts (.inr (.inr (by rfl))), hunlatched (by rfl)]
    rfl
  have hpasses := s.vector.passes_iff dx dy
  refine ⟨fun hwrong => ?failed, fun hx' hy' => ?passed⟩
  case failed =>
    have hnot : ¬ s.vector.passes dx dy = true := fun h => by
      obtain ⟨h1, h2⟩ := hpasses.mp h
      have hx1 : x = s.vector.expected := hx.trans h1
      have hy1 : y = s.vector.plain := by
        rw [hy, hx]
        exact h2
      exact hwrong.elim (· hx1) (· hy1)
    exact hexec ⟨hservice, hqueue, hlane, hdata, hend, hheld⟩ (hends.trans ((if_neg hnot).trans (hfails _)))
  case passed =>
    have hpass : s.vector.passes dx dy = true := by
      refine hpasses.mpr ⟨hx.symm.trans hx', ?_⟩
      rw [← hy', hy, hx]
      rfl
    have hdecides := hends.trans (if_pos hpass)
    refine ⟨fun hscan => ?store, fun hscan => ⟨fun j hphase hjob hkeep => ?purge, fun j c hphase hcursor hjob hexcluded hroom => ?sanitize,
      fun c w hphase hrecord hkind hwraps => ?blank, fun hphase hprovisioning => ?absence⟩⟩
    case store =>
      exact hexec ⟨hservice, hqueue, hlane, hdata, hend, hheld⟩ (hdecides.trans ((if_pos hscan).trans (hfails _)))
    all_goals have hsound : ¬ s.scan.storeFault = true := by rw [hscan]; decide
    case purge =>
      refine hexec ⟨hservice, hqueue, hlane, hdata, hend, hheld⟩ (hdecides.trans ((if_neg hsound).trans ?_))
      rw [if_pos (by rw [hphase]; decide)]
      have hresume : s.enterWiping.resumeWipe = { s with
          access := .wiping, view := some View.empty, pendingView := none
          engine := ⟨some { j with stage := .layoutWrite }, none⟩
          writer := ⟨some ⟨.layout (j.layout s.copies.layout), [.engine]⟩, []⟩ } := by
        rw [hwiping]
        unfold State.resumeWipe
        rw [hjob]
        dsimp only
        rw [hphase]
        dsimp only
        have hsame : ({ j with keepOwner := s.keepOwner } : WipeJob) = j := by rw [← hkeep]
        rw [show State.keepOwner { s with access := .wiping, view := some View.empty, pendingView := none } = s.keepOwner from rfl,
          if_pos hkeep.symm, hsame]
        unfold State.rewriteLayout
        rw [State.engineWrite_idle (by exact hidle), hsanitize]
      rw [hresume, State.lastStep_wiping (by rfl), hunlatched (by rfl)]
    case sanitize =>
      refine hexec ⟨hservice, hqueue, hlane, hdata, hend, hheld⟩ (hdecides.trans ((if_neg hsound).trans ?_))
      rw [if_pos (by rw [hphase]; decide)]
      have hresume : s.enterWiping.resumeWipe =
          ({ s with access := .wiping, view := some View.empty, pendingView := none } : State).stepsSent j c 4 := by
        rw [hwiping]
        unfold State.resumeWipe
        rw [hjob]
        dsimp only
        rw [hphase, hcursor]
        exact State.startSanitize_four nofun hexcluded hroom hout
      rw [hresume, State.lastStep_wiping (by rfl), hunlatched (by rfl)]
      rfl
    case blank =>
      have hblank : s.provisioning = .blank := by
        rw [State.provisioning_eq, hrecord, Option.map_some, hkind, if_pos rfl]
      have hkey : s.deviceGlobalKey = unwrapKey s.store.identity.deviceKey w := by
        unfold State.deviceGlobalKey
        rw [hrecord, Option.bind_some, hwraps]
        rfl
      have hreach : s.powerUpDecision = s.reachBlank.lastStep :=
        (if_neg hsound).trans ((if_neg (by rw [hphase]; decide)).trans (if_pos hblank))
      refine ⟨fun key hunwrap => ?loaded, fun hunwrap => ?mismatch⟩
      case loaded =>
        refine hexec ⟨hservice, hqueue, hlane, hdata, hend, hheld⟩ (hdecides.trans (hreach.trans ?_))
        unfold State.reachBlank
        rw [hkey, hunwrap]
        dsimp only
        unfold State.enterBlank
        rw [State.enter_unlatched hawake hlatch, State.lastStep_restarts (.inl (by rfl)), hunlatched (by rfl)]
        rfl
      case mismatch =>
        refine hexec ⟨hservice, hqueue, hlane, hdata, hend, hheld⟩ (hdecides.trans (hreach.trans ?_))
        unfold State.reachBlank
        rw [hkey, hunwrap]
        dsimp only
        unfold State.enterFault
        rw [State.enter_unlatched (s := s.markCorrupt 0) hawake hlatch, State.lastStep_restarts (.inr (.inr (by rfl))),
          hunlatched (by rfl)]
        rfl
    case absence =>
      refine hexec ⟨hservice, hqueue, hlane, hdata, hend, hheld⟩ (hdecides.trans ((if_neg hsound).trans
        ((if_neg (by rw [hphase]; decide)).trans ((if_neg hprovisioning).trans ?_))))
      unfold State.absenceStep State.requestWrite
      rw [if_pos (by show s.writer.current = none ∧ _; rw [hidle]; exact ⟨rfl, rfl⟩)]
      rfl

/-- Settles O54. -/
theorem absenceStepDecides : Obligations.AbsenceStepDecides := by
  unfold Obligations.AbsenceStepDecides
  rintro s n b u hquiet hpower haccess hwriter hjob hnone hlatch hprovisioning rfl rfl
  obtain ⟨hservice, hqueue, hlane, hdata, hend, hheld⟩ := hquiet
  let a : State := { s.withCounters n with writer := ⟨none, []⟩ }
  have hexec : ∀ {u : State}, u.Quiet → a.absenceTest.writerOn = u → exec .storeWriteCompletion s = .next u := fun hu htest => by
    refine congrArg Host.Outcome.next (State.event_quiet hservice (by rw [hpower]; decide) ?_ hu.settle)
    rw [hwriter]
    have htold : ((s.landWrite ⟨.counters n, [.sequence]⟩).tell .sequence) = a.absenceTest := by
      rw [State.landWrite_counters, hwriter]
      show State.sequenceTold a = _
      unfold State.sequenceTold
      rw [show a.power = .absence from hpower]
    rw [← htest, ← htold]
    rfl
  have hawake : a.access ≠ .dormant := by
    show s.access ≠ .dormant
    rw [haccess]
    decide
  have henter : a.enterLocked = { a with access := .locked, view := some s.copies.layout.imageView, pendingView := none } :=
    congrArg State.showLocked (State.enter_unlatched hawake hlatch .locked)
  have hinLocked : ({ a with power := .running, latched := false } : State).inLocked =
      { a with
        power := .running, latched := false, access := .locked, view := some s.copies.layout.imageView, pendingView := none } := by
    unfold State.inLocked
    rw [if_neg (by exact hawake), if_neg (by exact hawake), ← hend]
    rfl
  refine ⟨fun hover => ?wipe, fun hbelow => ⟨fun hstays => ?locked, fun hopened hwipe => ?opened⟩⟩
  case wipe =>
    refine hexec ⟨hservice, hqueue, hlane, hdata, rfl, hheld⟩ ?_
    have hbegun : a.triggerWipe .absence = a.wipeBegun .absence s.copies.policy.depth s.keepOwner :=
      State.trigger_begun (s := a) hservice hnone hjob rfl (fun h => by
        have := h.1
        rw [show a.access = _ from haccess] at this
        cases this) _ _
    have htest : a.absenceTest = (a.wipeBegun .absence s.copies.policy.depth s.keepOwner).lastStep :=
      (if_pos hover).trans (congrArg State.lastStep hbegun)
    rw [htest]
    have hwiping : (a.wipeBegun .absence s.copies.policy.depth s.keepOwner).access = .wiping := if_neg hawake
    have hsession : (a.wipeBegun .absence s.copies.policy.depth s.keepOwner).sessionAccess = .wiping :=
      (if_neg (by rw [hwiping]; decide)).trans hwiping
    have hunmoved : (a.wipeBegun .absence s.copies.policy.depth s.keepOwner).Unmoved := by
      refine .inr ?_
      cases he : s.copies.policy.enclosure with
      | ignore => exact .inl he
      | lock => exact .inr (.inl ⟨he, by rw [hsession]; decide⟩)
      | wipe => exact .inr (.inr ⟨he, rfl⟩)
    rw [State.lastStep_wiping hwiping]
    exact congrArg State.writerOn (State.applyOpening_latched
      (s := { a.wipeBegun .absence s.copies.policy.depth s.keepOwner with power := .running }) fun _ => hunmoved)
  case locked =>
    refine hexec ⟨hservice, hqueue, hlane, hdata, rfl, hheld⟩ ?_
    have htest : a.absenceTest = a.enterLocked.lastStep := if_neg hbelow
    have hunmoved : s.latched = true → a.enterLocked.restarted.Unmoved := fun hl => by
      rcases hstays with h | h
      · rw [hl] at h
        cases h
      · rw [henter]
        refine .inr ?_
        cases he : s.copies.policy.enclosure with
        | ignore => exact .inl he
        | lock => exact .inr (.inl ⟨he, nofun, nofun⟩)
        | wipe => exact absurd he h
    have hlast : a.enterLocked.lastStep = { a.enterLocked.restarted with latched := false } := by
      rw [State.lastStep_restarts (.inr (.inl (by rw [henter])))]
      exact State.applyOpening_latched (s := a.enterLocked.restarted) fun hl => hunmoved (by rw [henter] at hl; exact hl)
    show _ = ({ (State.inLocked { a with power := .running, latched := false }) with backoff := _ } : State)
    rw [htest, hlast, henter, hinLocked]
    rfl
  case opened =>
    refine hexec ⟨hservice, hqueue, hlane, hdata, rfl, hheld⟩ ?_
    have htest : a.absenceTest = a.enterLocked.lastStep := if_neg hbelow
    have hlast : a.enterLocked.lastStep = ({ a.enterLocked.restarted with latched := false } : State).triggerWipe .enclosure := by
      rw [State.lastStep_restarts (.inr (.inl (by rw [henter]))), henter, if_pos (by exact hopened),
        State.applyOpening_wipe (by exact hprovisioning) (by exact hwipe)]
    have hbegun : ({ a.enterLocked.restarted with latched := false } : State).triggerWipe .enclosure =
        (({ a with power := .running, latched := false } : State).inLocked).wipeBegun .enclosure s.copies.policy.depth
          s.keepOwner := by
      rw [hinLocked, henter]
      exact State.trigger_begun (by exact hservice) (by exact hnone) (by exact hjob) (by rfl) (by rintro ⟨h, _⟩; cases h) _ _
    rw [htest, hlast, hbegun]
    rfl

/-- Settles O55. -/
theorem enclosureActs : Obligations.EnclosureActs := by
  unfold Obligations.EnclosureActs
  rintro s u hu
  replace hu : u = s.openingNoted := hu
  subst hu
  refine ⟨fun hcalm hclosed => ?opens, fun hquiet hon hstarting hclosed => ?latched, fun hcalm => ⟨fun hopened => ?again, ?closing⟩⟩
  case opens =>
    have hnoted : s.openingNoted.Calm := hcalm
    refine ⟨fun hnone => exec_opening hcalm hclosed ?unmoved, fun hprovisioning hlock ha => ?session,
      fun hprovisioning hlock ha hresume hempty => exec_opening hcalm hclosed ?asleep,
      fun hprovisioning hwipe hjob hnone hidle ha => exec_opening hcalm hclosed ?wipe⟩
    case unmoved =>
      rw [State.applyOpening_unmoved (s := { s.openingNoted with latched := true }) ?_]
      · exact State.settle_calm hnoted
      rcases hnone with h | h | ⟨h, ha⟩ | h
      · exact .inl h
      · exact .inr (.inl h)
      · refine .inr (.inr (.inl ⟨h, ?_⟩))
        show s.sessionAccess ≠ .opened ∧ s.sessionAccess ≠ .staged
        rcases ha with ha | ha | ha | ⟨ha, hopened, hstaged⟩
        · rw [State.sessionAccess_awake (by rw [ha]; decide), ha]
          decide
        · rw [State.sessionAccess_awake (by rw [ha]; decide), ha]
          decide
        · rw [State.sessionAccess_awake (by rw [ha]; decide), ha]
          decide
        · rw [State.sessionAccess, if_pos ha]
          cases hr : s.resume with
          | none => decide
          | some x =>
            rw [hr] at hopened hstaged
            exact ⟨fun h => hopened (congrArg some h), fun h => hstaged (congrArg some h)⟩
      · exact .inr (.inr (.inr h))
    case session =>
      have hawake : s.access ≠ .dormant := by rcases ha with ha | ha <;> rw [ha] <;> decide
      have hsession : s.openingNoted.sessionAccess = .opened ∨ s.openingNoted.sessionAccess = .staged := by
        rw [State.sessionAccess_awake (by exact hawake)]
        exact ha
      refine ⟨fun hempty hlatch => exec_opening hcalm hclosed ?_, fun hused => exec_opening hcalm hclosed ?_⟩
      · rw [State.applyOpening_lock (s := { s.openingNoted with latched := true }) hprovisioning hlock]
        exact State.enclosureLock_ends hnoted hsession (fun _ => hlatch) hempty
      · rw [State.applyOpening_lock (s := { s.openingNoted with latched := true }) hprovisioning hlock]
        exact State.enclosureLock_waits hnoted hsession hused
    case asleep =>
      have hsession : s.openingNoted.sessionAccess = .opened ∨ s.openingNoted.sessionAccess = .staged := by
        rw [State.sessionAccess, if_pos (by exact ha)]
        show s.resume.getD .dormant = _ ∨ s.resume.getD .dormant = _
        rcases hresume with h | h <;> rw [h] <;> decide
      rw [State.applyOpening_lock (s := { s.openingNoted with latched := true }) hprovisioning hlock]
      exact State.enclosureLock_ends hnoted hsession (fun h => absurd ha h) hempty
    case wipe =>
      have hfault : s.access ≠ .fault := fun h => by
        rcases ha with (h' | h' | h' | h') | h' <;> rw [h] at h' <;> cases h'
      have hbegun : s.openingNoted.triggerWipe .enclosure =
          s.openingNoted.wipeBegun .enclosure s.copies.policy.depth s.keepOwner :=
        State.trigger_begun (s := s.openingNoted) hcalm.service hnone hjob hidle (fun h => hfault h.1) _ _
      rw [State.applyOpening_wipe (s := { s.openingNoted with latched := true }) hprovisioning hwipe]
      exact (congrArg State.settle hbegun).trans (State.settle_calm (hnoted.wipeBegun _ _ _))
  case latched =>
    refine congrArg Host.Outcome.next (State.event_quiet hquiet.1 hon ((if_pos hclosed).trans (if_neg hstarting)) ?_)
    exact State.Quiet.settle (s := { s.openingNoted with latched := true }) hquiet
  case again =>
    exact congrArg Host.Outcome.next (State.event_calm_eq hcalm (if_neg (by rw [hopened]; decide)) hcalm)
  case closing => exact congrArg Host.Outcome.next (State.event_calm_eq hcalm rfl hcalm)

end

section
/-! Proofs/Purge.lean: a purge that finds traffic or a request in service (R52, R68, R105, R124, R146), and the answer WIPED of a
request that awaited a record write (R105). -/

open Sys2Proof Sys2Proof.Machine

namespace Sys2Proof.Machine

/-! ## The Command Table (R52) -/

/-- An entry after a purge: a FORWARDED one is ABORTING, its segments' results kept. -/
def Entry.afterPurge (e : Entry) : Entry := if e.state = .forwarded then e.struck .aborting else e

/-- A FORWARDED entry has a segment whose completion has not arrived. -/
abbrev Entry.Owed (e : Entry) : Prop := e.state = .forwarded → ∃ g ∈ e.segments, g.status = none ∧ g.arrived = none

/-- The purge of an entry that still owes a completion (R52). -/
theorem State.abortEntry_owed {s : State} {t : Tag} (h : s.table[t].Owed) :
    ∃ slots, s.abortEntry t = { s with table := s.table.set t s.table[t].afterPurge, slots := slots } := by
  unfold State.abortEntry Entry.afterPurge
  by_cases hf : s.table[t].state = .forwarded
  · rw [if_pos hf, if_pos hf, State.releaseEntry_eq s t hf]
    refine ⟨_, if_neg fun hall => ?_⟩
    obtain ⟨g, hg, hstatus, harrived⟩ := h hf
    have hentry : (s.table.set t (s.table[t].struck .aborting))[t] = s.table[t].struck .aborting := vector_set_get _ _ _
    have hfinished : (s.table[t].struck .aborting).allFinished = true := by
      rw [← hentry]
      exact hall
    have hstruck := List.all_eq_true.mp hfinished g.struck (List.mem_map.mpr ⟨g, hg, rfl⟩)
    have hnone : g.struck.status = none := by
      show (g.status <|> g.arrived) = none
      rw [hstatus, harrived]
      rfl
    rw [hnone] at hstruck
    cases hstruck
  · rw [if_neg hf, if_neg hf]
    have hsame : s.table.set t s.table[t] = s.table := vector_ext fun i => by
      rw [vector_get_set]
      split
      · rename_i hi
        rw [hi]
      · rfl
    exact ⟨s.slots, by rw [hsame]⟩

theorem State.abortEntries_owed (l : List Tag) (hnodup : l.Nodup) (s : State) (h : ∀ t ∈ l, s.table[t].Owed) :
    ∃ slots, l.foldl State.abortEntry s = { s with
      table := Vector.ofFn fun t : Tag => if t ∈ l then s.table[t].afterPurge else s.table[t], slots := slots } := by
  induction l generalizing s with
  | nil =>
    have hsame : (Vector.ofFn fun t : Tag => s.table[t]) = s.table := vector_ext fun i => vector_get_ofFn _ i
    simp only [List.foldl_nil, List.not_mem_nil, if_false, hsame]
    exact ⟨s.slots, rfl⟩
  | cons t l ih =>
    obtain ⟨hfresh, hnodup⟩ := List.nodup_cons.mp hnodup
    obtain ⟨slots, hstep⟩ := State.abortEntry_owed (h t List.mem_cons_self)
    have hother : ∀ q ∈ l, (s.table.set t s.table[t].afterPurge)[q] = s.table[q] := fun q hq => by
      rw [vector_get_set, if_neg (by rintro rfl; exact hfresh hq)]
    obtain ⟨slots', hrest⟩ := ih hnodup { s with table := s.table.set t s.table[t].afterPurge, slots := slots } fun q hq => by
      show ((s.table.set t s.table[t].afterPurge)[q]).Owed
      rw [hother q hq]
      exact h q (List.mem_cons_of_mem t hq)
    refine ⟨slots', ?_⟩
    rw [List.foldl_cons, hstep, hrest]
    have htable : (Vector.ofFn fun q : Tag =>
          if q ∈ l then (s.table.set t s.table[t].afterPurge)[q].afterPurge else (s.table.set t s.table[t].afterPurge)[q]) =
        Vector.ofFn fun q : Tag => if q ∈ t :: l then s.table[q].afterPurge else s.table[q] := vector_ext fun q => by
      rw [vector_get_ofFn, vector_get_ofFn]
      by_cases hq : q ∈ l
      · rw [if_pos hq, if_pos (List.mem_cons_of_mem t hq), hother q hq]
      · rw [if_neg hq, vector_get_set]
        by_cases ht : t = q
        · subst ht
          rw [if_pos rfl, if_pos List.mem_cons_self]
        · rw [if_neg ht, if_neg (by simpa [hq] using Ne.symm ht)]
    exact congrArg (fun x => ({ s with table := x, slots := slots' } : State)) htable

/-- A purge at a Command Table whose FORWARDED entries all still owe a completion (R52). -/
theorem State.abortTable_owed {s : State} (h : ∀ t : Tag, s.table[t].Owed) : ∃ slots, s.abortTable = { s with
    table := Vector.ofFn fun t : Tag => s.table[t].afterPurge, slots := slots, readHeld := [], writeHeld := [] } := by
  obtain ⟨slots, hentries⟩ := State.abortEntries_owed allTags (List.nodup_finRange 32) s fun t _ => h t
  have hall : ∀ t : Tag, t ∈ allTags := List.mem_finRange
  refine ⟨slots, ?_⟩
  unfold State.abortTable
  rw [hentries]
  simp only [hall, if_true]
  rfl

/-! ## The request in service (R105, R124) -/

/-- What a purge makes of the request in service: none; one that is held, which is answered WIPED; one that awaits a write, which
is struck. -/
abbrev State.StruckAs (s : State) (service : Option Service) (up : List UpMessage) (answered : Option Tag) : Prop :=
  (s.service = none ∧ service = none ∧ up = [] ∧ answered = none) ∨
    (∃ v, s.service = some v ∧ v.discard = false ∧ service = none ∧ answered = some v.tag ∧
      up = [controlCompletion v.tag .wiped v.code .noFields] ∧
      ((∃ rs, v.stage = .holdLock rs) ∨ v.stage = .holdEndSession ∨ (∃ r, v.stage = .holdErase r) ∨ v.stage = .holdTest)) ∨
    (∃ v, s.service = some v ∧ v.stage.awaitsWrite = true ∧ service = some { v with struck := true } ∧ up = [] ∧ answered = none)

section
variable {s : State} {service : Option Service} {up : List UpMessage} {answered : Option Tag}
  (h : s.StruckAs service up answered)
include h

theorem State.StruckAs.owesAnswer : s.owesAnswer = false := by
  unfold State.owesAnswer State.serviceStage
  rcases h with ⟨hv, _⟩ | ⟨v, hv, _, _, _, _, ⟨rs, hg⟩ | hg | ⟨r, hg⟩ | hg⟩ | ⟨v, hv, hg, _⟩
  · rw [hv]
    rfl
  all_goals rw [hv]
  case inr.inr =>
    cases hs : v.stage <;> simp_all [Stage.awaitsWrite]
  all_goals
    rw [Option.map_some, hg]

/-- The service place after a purge holds nothing that ends a hold. -/
theorem State.StruckAs.resting : service = none ∨ ∃ v, service = some v ∧ v.stage.awaitsWrite = true := by
  rcases h with ⟨_, rfl, _⟩ | ⟨v, _, _, rfl, _⟩ | ⟨v, _, hg, rfl, _⟩
  · exact .inl rfl
  · exact .inl rfl
  · exact .inr ⟨_, rfl, hg⟩

theorem State.strikeService_eq : ∃ table : Vector Entry 32,
    s.strikeService = { s with table := table, service := service, outbound := s.outbound ++ up } ∧
      ∀ t : Tag, table[t] = if answered = some t then Entry.free else s.table[t] := by
  unfold State.strikeService
  rcases h with ⟨hv, rfl, rfl, rfl⟩ | ⟨v, hv, hdiscard, rfl, rfl, rfl, hg⟩ | ⟨v, hv, hg, rfl, rfl, rfl⟩
  · refine ⟨s.table, ?_, fun t => (if_neg nofun).symm⟩
    rw [hv, List.append_nil]
    dsimp only
    rw [← hv]
  · refine ⟨s.table.set v.tag Entry.free, ?_, fun t => ?_⟩
    · have hanswer : s.answerPlain .wiped = { s.answered v.tag .wiped v.code .noFields with service := none } :=
        State.answer_eq hv hdiscard _ _
      rw [hv]
      dsimp only
      rcases hg with ⟨rs, hg⟩ | hg | ⟨r, hg⟩ | hg <;> rw [hg] <;> exact hanswer
    · rw [vector_get_set]
      simp only [Option.some.injEq]
  · refine ⟨s.table, ?_, fun t => (if_neg nofun).symm⟩
    rw [hv, List.append_nil]
    dsimp only
    cases hs : v.stage <;> first | rfl | (rw [hs] at hg; cases hg)

end

/-! ## The purge -/

/-- The part after a purge outside DORMANT, with its Command Table, its service place and what was handed out (R68, R146). -/
def State.purgedWith (s : State) (table : Vector Entry 32) (service : Option Service) (up : List UpMessage) : State :=
  { s with
    table := table
    slots := Vector.replicate 16 KeySlot.empty
    locks := Vector.replicate 16 Locks.both
    sessionEnd := false
    readHeld := []
    writeHeld := []
    service := service
    outbound := s.outbound ++ up
    backoff := none
    latch := false
    notices := { s.notices with wipeStarted := true }
    access := .wiping
    faultCause := none
    view := some View.empty
    pendingView := none }

/-- A purge that finds traffic or a request in service (R52, R68, R124, R146). -/
theorem State.purge_serving {s : State} (hawake : s.access ≠ .dormant) (howed : ∀ t : Tag, s.table[t].Owed)
    {service : Option Service} {up : List UpMessage} {answered : Option Tag} (h : s.StruckAs service up answered) :
    ∃ table : Vector Entry 32, s.purge = s.purgedWith table service up ∧
      ∀ t : Tag, table[t] = if answered = some t then Entry.free else s.table[t].afterPurge := by
  obtain ⟨slots, habort⟩ := State.abortTable_owed howed
  have hkeys : s.purgeKeys = { s with
      table := Vector.ofFn fun t : Tag => s.table[t].afterPurge
      slots := Vector.replicate 16 KeySlot.empty, locks := Vector.replicate 16 Locks.both
      sessionEnd := false, readHeld := [], writeHeld := [] } := by
    unfold State.purgeKeys
    rw [habort]
    rfl
  have hstruck : s.purgeKeys.StruckAs service up answered := by
    rw [hkeys]
    exact h
  obtain ⟨table, hstrike, htable⟩ := State.strikeService_eq hstruck
  refine ⟨table, ?_, fun t => ?_⟩
  · unfold State.purge
    rw [hstrike, hkeys]
    unfold State.purgeUnit State.enterWiping State.enter State.purgedWith
    rw [if_neg (by exact hawake)]
    rfl
  · rw [htable, hkeys]
    exact congrArg (ite _ Entry.free) (vector_get_ofFn _ t)

/-- A part whose service place rests, with nothing on the lanes. -/
theorem State.settle_resting {s : State} (hservice : s.service = none ∨ ∃ v, s.service = some v ∧ v.stage.awaitsWrite = true)
    (hqueue : s.queue = []) (hlane : s.lane = []) (hdata : s.dataLane = []) (hend : s.sessionEnd = false)
    (hheld : s.heldPowerEnter = false) : s.settle = s := by
  refine State.settle_of_settled (State.settleStep_none ?_ (.inr hqueue) hheld hlane hdata)
  have hhold : s.holdReady = false := by
    unfold State.holdReady State.serviceStage
    rcases hservice with hv | ⟨v, hv, hg⟩
    · rw [hv]
      rfl
    · rw [hv, Option.map_some]
      cases hs : v.stage <;> first | rfl | (rw [hs] at hg; cases hg)
  unfold State.channelReady State.sessionEndReady
  rw [hend, hhold]
  rfl

/-- A completed write that the channel awaits, whatever waits behind it (R87, R89). -/
theorem exec_channelWrite_queued {s : State} (hpower : s.power = .running) (howes : s.owesAnswer = false) {c : Content}
    (hw : s.writer.current = some ⟨c, [.channel]⟩) :
    exec .storeWriteCompletion s = .next (s.landWrite ⟨c, [.channel]⟩).channelTold.writerOn.settle := by
  refine congrArg Host.Outcome.next ((State.event_of_owes howes (by rw [hpower]; decide) _).trans ?_)
  rw [hw]
  rfl

/-- A request that a wipe has struck is answered WIPED when its write completes (R105, R124). -/
theorem State.channelTold_struck {s : State} {v : Service} (hv : s.service = some v) (hstruck : v.struck = true) :
    s.channelTold = s.answerPlain .wiped := by
  unfold State.channelTold
  rw [hv]
  exact if_pos hstruck

end Sys2Proof.Machine

/-- Settles O56. -/
theorem purgeAbortsTraffic : Obligations.PurgeAbortsTraffic := by
  unfold Obligations.PurgeAbortsTraffic
  refine ⟨?opening, ?write⟩
  case opening =>
    intro s hpower hqueue hlane hdata hheld hclosed hprovisioning hpolicy hjob hservice howed service up answered hstruck
    have hawake : s.access ≠ .dormant := hservice.not_dormant
    have hstruck' : s.openingNoted.StruckAs service up answered := hstruck
    obtain ⟨table, hpurge, htable⟩ := State.purge_serving (s := s.openingNoted) hawake howed hstruck'
    let j : WipeJob := ⟨.purgeWrite, .enclosure, s.copies.policy.depth, s.keepOwner, 0,
      decide (s.access = .fault) && decide (s.faultCause = some .selfTest)⟩
    let b : State := { s.openingNoted.purgedWith table service up with engine := ⟨some j, s.engine.sanitize⟩ }
    have hbegun : s.openingNoted.triggerWipe .enclosure = b.requestWrite (.wipe j.purgeRecord) [.engine] := by
      have hnone : ¬ s.openingNoted.engine.job.isSome = true := by
        show ¬ s.engine.job.isSome = true
        rw [hjob]
        decide
      refine (if_neg hnone).trans ?_
      rw [hpurge]
      rfl
    obtain ⟨w, hw, hidle⟩ : ∃ w, b.requestWrite (.wipe j.purgeRecord) [.engine] = { b with writer := w } ∧
        (s.writer = ⟨none, []⟩ → w = ⟨some ⟨.wipe j.purgeRecord, [.engine]⟩, []⟩) := by
      by_cases hidle : s.writer = ⟨none, []⟩
      · exact ⟨_, if_pos (by rw [show b.writer = _ from hidle]; exact ⟨rfl, rfl⟩), fun _ => rfl⟩
      · exact ⟨_, State.requestWrite_queued (s := b) hidle _ _, fun h => absurd h hidle⟩
    refine ⟨{ b with writer := w }, congrArg Host.Outcome.next ?_, fun t => ?_, rfl, rfl, rfl, rfl, rfl, rfl, rfl, rfl, rfl, rfl, rfl,
      rfl, rfl, rfl, hidle⟩
    · rw [State.event_of_owes (State.StruckAs.owesAnswer (s := s) hstruck) (by rw [hpower]; decide), if_pos hclosed]
      have hopening : s.opening = { b with writer := w } :=
        (if_pos hpower).trans ((State.applyOpening_wipe (s := { s.openingNoted with latched := true }) hprovisioning hpolicy).trans
          (hbegun.trans hw))
      rw [hopening]
      exact State.settle_resting (s := { b with writer := w }) (State.StruckAs.resting (s := s) hstruck) hqueue hlane hdata rfl hheld
    · exact htable t
  case write =>
    intro s u v c q hpower hv hstruck hdiscard hstage hqueue hlane hdata hend hheld haccess hwriter hcontent
    have hawake : s.access ≠ .dormant := by
      rw [haccess]
      decide
    have howes : s.owesAnswer = false := by
      unfold State.owesAnswer State.serviceStage
      rw [hv, Option.map_some]
      cases hs : v.stage <;> first | rfl | (rw [hs] at hstage; cases hstage)
    have hland := State.landWrite_eq hawake (u := u) (c := c) (hcontent.imp_right (Or.imp_right (Or.imp_right Or.inl))) [.channel]
    rw [exec_channelWrite_queued hpower howes (by rw [hwriter]), hland, hwriter]
    have husers : u.service = some v ∧ u.power = .running ∧ u.queue = [] ∧ u.lane = [] ∧ u.dataLane = [] ∧ u.sessionEnd = false ∧
        u.heldPowerEnter = false := by
      rcases hcontent with ⟨i, d, _, rfl⟩ | ⟨l, _, rfl⟩ | ⟨p, _, rfl⟩ | ⟨n, _, rfl⟩ <;>
        exact ⟨hv, hpower, hqueue, hlane, hdata, hend, hheld⟩
    obtain ⟨huv, hupower, huqueue, hulane, hudata, huend, huheld⟩ := husers
    have htold : ({ u with writer := ⟨none, q⟩ } : State).channelTold =
        { u.answered v.tag .wiped v.code .noFields with service := none, writer := ⟨none, q⟩ } :=
      (State.channelTold_struck (s := { u with writer := ⟨none, q⟩ }) huv hstruck).trans
        (State.answer_eq (s := { u with writer := ⟨none, q⟩ }) huv hdiscard .wiped .noFields)
    rw [htold]
    unfold State.writerOn
    rw [Writer.beginNext_idle]
    exact congrArg Host.Outcome.next (State.settle_calm ⟨hupower, rfl, huqueue, hulane, hudata, huend, huheld⟩)

end

section
/-! Proofs/Unlock.lean: UNLOCK past its gate, in LOCKED, in OPEN and in DORMANT (R13, R64, R65, R107 to R110, R174), the response that
an UNLOCK has yet to hand out (R14), and what an open view shows (R8, R9). -/

open Sys2Proof Sys2Proof.Machine

namespace Sys2Proof.Machine

/-! ## The gate of an UNLOCK -/

/-- A request of a part that is ready for it is taken past the gate, an UNLOCK where the binding policy is met (R99). -/
theorem State.Ready.runs_gate {s : State} {tag : Byte} {t : Tag} {auth : AuthBlock} {i : SlotIndex}
    (hready : s.Ready tag t auth i) {r : Request} {served : List Access} (hr : gatedIn r = some served) (hwf : r.wellFormed = true)
    (ha : s.access ∈ served) (htakes : s.TakesBlock r) (hfinal : ¬ (r = .finalize ∧ s.provisioning = .final))
    (hmet : s.copies.policy.binding = .none ∨ s.platform = .matched) :
    runs (s.offer (.request tag auth r)) [.storeWriteCompletion, .storeWriteCompletion] =
      .next (s.pastGate t r i auth.secret) := by
  obtain ⟨hcalm, hfree, hslot, hbackoff, hcorrupt, hverifies, hidle, hwrap⟩ := hready
  have henvelope := readEnvelope_envelopeOf (blockSlot_of_toNat hslot) (length_fields_le hwf) (requestOf_fields hwf)
  have hrefusal : s.gateRefusal r i = none := by
    rw [State.gateRefusal_eq, if_neg (not_not.mpr hbackoff), if_neg (fun ⟨_, h1, h2⟩ => hmet.elim h1 h2),
      if_neg (by rw [hcorrupt]; decide)]
  obtain ⟨b, hoffer, hruns⟩ := gate_passes hcalm hfree henvelope (requestNeed_gated_ne hr htakes) (accessRefusal_served hr ha)
    ((State.entryServes_gated hr hcalm.sessionEnd (.inr ha)).mpr ⟨ha, hfinal⟩) hrefusal hidle hverifies
  have hkind : ∀ v, (s.passed t ⟨r, some (i, auth.secret)⟩).afterReset v i auth.secret =
      (s.passed t ⟨r, some (i, auth.secret)⟩).afterGate v i auth.secret := fun v => if_neg hwrap
  rw [State.pastGate, ← hkind, ← hruns, ← hoffer]
  rfl

theorem requestAllows_unlock {k : CredentialKind} (h : k = .owner ∨ k = .user ∨ k = .wipe) (handover : Byte) :
    requestAllows (.unlock handover) k = true :=
  (requestAllows_iff (r := .unlock handover) rfl k).mpr (by simpa using h)

/-- The request in service has passed the gate and keeps its place in a stage (R104, R121). -/
def State.keeping (u : State) (t : Tag) (v : Service) : State :=
  { u.granted t with table := u.table.set t Entry.ofControl, service := some v }

/-- A request past the gate that keeps the service place in a stage, with no record written but the counts. -/
theorem State.runs_keeping {s : State} {tag : Byte} {t : Tag} {auth : AuthBlock} {i : SlotIndex} {r : Request}
    (hgate : runs (s.offer (.request tag auth r)) [.storeWriteCompletion, .storeWriteCompletion] =
      .next (s.pastGate t r i auth.secret)) (hkind : requestAllows r (s.credential i).kind = true) {u w : State}
    (hidle : u.writer = ⟨none, []⟩) {g : Stage}
    (heffect : (s.passed t ⟨r, some (i, auth.secret)⟩).effect (Service.entered s t ⟨r, some (i, auth.secret)⟩ .gateReset) i
      auth.secret = (u.passed t ⟨r, some (i, auth.secret)⟩).stage (Service.entered s t ⟨r, some (i, auth.secret)⟩ .gateReset) g)
    (hw : (u.keeping t (Service.entered s t ⟨r, some (i, auth.secret)⟩ g)).settle = w) :
    runs (s.offer (.request tag auth r)) [.storeWriteCompletion, .storeWriteCompletion] = .next w := by
  have hkeeping : ((u.passed t ⟨r, some (i, auth.secret)⟩).stage (Service.entered s t ⟨r, some (i, auth.secret)⟩ .gateReset)
      g).writerOn = u.keeping t (Service.entered s t ⟨r, some (i, auth.secret)⟩ g) := by
    unfold State.passed State.stage State.writerOn State.keeping State.granted
    rw [← hidle]
    dsimp only
    rw [hidle]
    rfl
  rw [hgate, State.pastGate_effect t auth.secret hkind, heffect, hkeeping, hw]

/-! ## The load (R64, R65, R107, R109) -/

theorem State.enter_leaves {s : State} (hawake : s.access ≠ .dormant) {a : Access} (ha : a ≠ .locked) :
    s.enter a = { s with access := a, latch := false } := by
  refine (if_neg hawake).trans ?_
  rw [decide_eq_false ha, Bool.and_false]

theorem nodup_ranges_filter {keys : List RangeKey} {p : RangeKey → Bool} (h : (keys.map RangeKey.range).Nodup) :
    ((keys.filter p).map RangeKey.range).Nodup := h.sublist (List.filter_sublist.map _)

/-- The part after the load event of an UNLOCK served in LOCKED, in its new access state and with its view (R13, R109). -/
def State.sessionLoaded (s : State) (loaded : List RangeKey) (a : Access) (view pending : Option View) : State :=
  { s with
    access := a, latch := false, view := view, pendingView := pending
    slots := s.slotsWith loaded, locks := s.locksWith loaded fun _ => Locks.both }

/-- The load of distinct ranges into a part whose ranges have all been both-locked. -/
theorem State.loadRanges_locked (s : State) {loaded : List RangeKey} (hnodup : (loaded.map RangeKey.range).Nodup) :
    ({ s with locks := Vector.replicate 16 Locks.both } : State).loadRanges loaded =
      { s with slots := s.slotsWith loaded, locks := s.locksWith loaded fun _ => Locks.both } := by
  have hlocked : (fun r : RangeIndex => (Vector.replicate 16 Locks.both)[r]) = fun _ => Locks.both := funext fun r => by
    rw [Fin.getElem_fin, Vector.getElem_replicate]
  refine (State.loadRanges_eq loaded _ hnodup).trans ?_
  exact congrArg (fun f => ({ s with slots := s.slotsWith loaded, locks := s.locksWith loaded f } : State)) hlocked

section
variable {s : State} (hawake : s.access ≠ .dormant) {loaded : List RangeKey} (hnodup : (loaded.map RangeKey.range).Nodup)
  (view : View)
include hawake hnodup

theorem State.unlockLoad_now : s.unlockLoad view loaded true = s.sessionLoaded loaded .opened (some view) none := by
  unfold State.unlockLoad
  rw [State.loadRanges_locked s hnodup, if_pos rfl, State.enter_leaves (by exact hawake) (by decide)]
  exact State.asleepLockOn_awake (show Access.opened ≠ .dormant by decide)

theorem State.unlockLoad_pending : s.unlockLoad view loaded false = s.sessionLoaded loaded .staged s.view (some view) := by
  unfold State.unlockLoad
  rw [State.loadRanges_locked s hnodup, if_neg (by decide), State.enter_leaves (by exact hawake) (by decide)]
  exact State.asleepLockOn_awake (show Access.staged ≠ .dormant by decide)

end

/-- The part after the load of an UNLOCK served in OPEN (R65). -/
def State.reloaded (s : State) (loaded : List RangeKey) : State :=
  { s with slots := s.slotsWith loaded, locks := s.locksWith loaded fun r => s.locks[r] }

theorem State.Calm.reloaded {s : State} (h : s.Calm) (loaded : List RangeKey) : (s.reloaded loaded).Calm := by
  unfold State.reloaded
  exact h

/-- UNLOCK of an OWNER or a USER served in OPEN and past its gate with the session still open: the EMPTY slots of the view's ranges
are loaded and the LOW_POWER lock-on follows in DORMANT (R65, R110, R174). -/
theorem State.serveUnlock_opened {u : State} {v : Service} {i : SlotIndex} {secret : Secret} {handover : Byte}
    {keys loaded : List RangeKey} {w : View} (hkind : (u.credential i).kind ≠ .wipe) (hserved : v.servedIn ≠ .locked)
    (hend : u.sessionEnd = false) (hsession : u.sessionAccess = .opened) (hview : u.view = some w)
    (hkeys : u.unwrapCurrent i secret = some keys) (hnodup : (keys.map RangeKey.range).Nodup)
    (hloaded : loaded = keys.filter fun k => w.shows k.range && decide (u.slots[k.range].state = .empty)) :
    u.serveUnlock v i secret handover =
      (u.reloaded loaded).asleepLockOn.answer .good
        (.unlocked w.capacity loaded.length
          (keys.filter fun k => w.shows k.range && decide (u.slots[k.range].state = .draining)).length) := by
  have hshown : ∀ st, u.reloadable keys st = keys.filter fun k => w.shows k.range && decide (u.slots[k.range].state = st) :=
    fun st => by
      unfold State.reloadable
      rw [hview]
      rfl
  have hcapacity : u.viewCapacity = w.capacity := by
    unfold State.viewCapacity
    rw [hview]
    rfl
  have hopen : ¬ (u.sessionEnd || decide (u.sessionAccess ≠ .opened)) = true := by
    rw [hend, hsession]
    decide
  refine (if_neg hkind).trans ((if_neg hserved).trans ((if_neg hopen).trans ?_))
  rw [hkeys]
  dsimp only
  rw [hshown, hshown, ← hloaded, hcapacity, State.loadRanges_eq loaded u (hloaded ▸ nodup_ranges_filter hnodup)]
  rfl

theorem State.writerOn_idle {s : State} (hidle : s.writer = ⟨none, []⟩) : s.writerOn = s := by
  unfold State.writerOn
  rw [hidle]
  show ({ s with writer := ⟨none, []⟩ } : State) = s
  rw [← hidle]

/-- A lock-on event and then an answer, as the answer and then the event. -/
theorem State.settle_afterLockOn {x : State} (hcalm : ({ x with service := none } : State).Calm) (hidle : x.writer = ⟨none, []⟩)
    (w : View) (f : LockOn → Bool) (t : Tag) (st : Status) (code : Nat) (r : Response) :
    ({ (x.afterLockOn w f).answered t st code r with service := none } : State).writerOn.settle =
      ({ x.answered t st code r with service := none } : State).afterLockOn w f := by
  have hswap : ({ (x.afterLockOn w f).answered t st code r with service := none } : State) =
      ({ x.answered t st code r with service := none } : State).afterLockOn w f := rfl
  have hwriter : (({ x.answered t st code r with service := none } : State).afterLockOn w f).writer = ⟨none, []⟩ := hidle
  rw [hswap, State.writerOn_idle hwriter]
  exact State.settle_calm (State.Calm.afterLockOn (s := { x.answered t st code r with service := none }) hcalm w f)

/-! ## The open view (R8, R9) -/

theorem layOut_ranges (es : List Extent) (visible : Nat) : (layOut visible es).map ViewEntry.range = es.map Extent.range := by
  induction es generalizing visible with
  | nil => rfl
  | cons e es ih => rw [layOut, List.map_cons, List.map_cons, ih]

theorem Layout.openView_conceals {l : Layout} {capacity : Nat} {ws : List Wrap} {r : RangeIndex}
    (hconcealable : l[r].concealable = true) (hrevealed : r ∉ l.revealed ws) : (l.openView capacity ws).shows r = false := by
  unfold View.shows
  rw [List.any_eq_false]
  intro e he
  rw [decide_eq_true_eq]
  intro hr
  have hmem : e.range ∈ ((l.partition capacity).filter (l.keeps (l.revealed ws))).map Extent.range :=
    layOut_ranges _ 0 ▸ List.mem_map.mpr ⟨e, he, rfl⟩
  obtain ⟨x, hx, hxr⟩ := List.mem_map.mp hmem
  have hkeeps := (List.mem_filter.mp hx).2
  have hxrange : x.range = r := hxr.trans hr
  subst hxrange
  simp [-Fin.getElem_fin, Layout.keeps, hconcealable, hrevealed] at hkeeps

/-! ## A response yet to be handed out (R14) -/

theorem State.settle_answering {s : State} {v : Service} {f : Response} (hv : s.service = some v) (hstage : v.stage = .answering f)
    (hdiscard : v.discard = false) (hend : s.sessionEnd = false) (hheld : s.heldPowerEnter = false) (hlane : s.lane = [])
    (hdata : s.dataLane = []) : s.settle = s := by
  refine State.settle_of_settled (State.settleStep_none ?_ (.inl (by rw [hv]; nofun)) hheld hlane hdata)
  unfold State.channelReady State.sessionEndReady State.holdReady State.serviceStage
  rw [hend, hv, Option.map_some, hstage]
  exact hdiscard

/-- The response that an UNLOCK has yet to hand out goes before the event that follows. -/
theorem State.handedOut_answering {s : State} {v : Service} {f : Response} (hbusy : s.Busy v) (hstage : v.stage = .answering f)
    (hqueue : s.queue = []) : s.handedOut = { s.answered v.tag .good v.code f with service := none } := by
  obtain ⟨hpower, hv, hdiscard, hstruck, hlane, hdata, hend, hheld⟩ := hbusy
  have howes : s.owesAnswer = true := by
    unfold State.owesAnswer State.serviceStage
    rw [hv, Option.map_some, hstage]
  have hends : s.endHold = { s.answered v.tag .good v.code f with service := none } := by
    unfold State.endHold
    rw [hv]
    dsimp only
    rw [hstage]
    exact State.answer_eq hv hdiscard .good f
  have hfollow : s.follow State.endHold = s.endHold.settle := if_neg (by rw [hpower]; decide)
  refine (if_pos howes).trans ?_
  rw [hfollow, hends]
  exact State.settle_calm ⟨hpower, rfl, hqueue, hlane, hdata, hend, hheld⟩

/-- A command but LINK RESET, POWER_GOOD and POWER_LOSS acts on the part with what it owed handed out. -/
theorem exec_handedOut {c : Instr} (hreset : c ≠ .linkReset) (hgood : ∀ l, c ≠ .powerGood l) (hloss : ∀ cut, c ≠ .powerLoss cut)
    {s u : State} (hs : s.handedOut = u) (hu : u.handedOut = u) : exec c s = exec c u := by
  have hevent : ∀ f, s.event f = u.event f := fun f => by
    unfold State.event
    rw [hs, hu]
  cases hc : c.capsule? with
  | some cap =>
    rw [exec_offer hc hreset, exec_offer hc hreset]
    exact congrArg Host.Outcome.next (hevent _)
  | none =>
    cases c <;> simp only [Instr.capsule?, reduceCtorEq] at hc
    case powerGood l => exact absurd rfl (hgood l)
    case powerLoss cut => exact absurd rfl (hloss cut)
    all_goals exact congrArg Host.Outcome.next (hevent _)

end Sys2Proof.Machine

/-- Settles O36. -/
theorem unlockOpensTheSession : Obligations.UnlockOpensTheSession := by
  unfold Obligations.UnlockOpensTheSession
  refine ⟨fun s tag t auth i handover hready ha hkinds hmet => ?unlock, fun s u v f c hbusy hstage hqueue hu => ?owed,
    fun l capacity ws r => Layout.openView_conceals⟩
  case owed =>
    have hs : s.handedOut = u := (State.handedOut_answering hbusy hstage hqueue).trans hu.symm
    have howes : u.owesAnswer = false := State.owesAnswer_of_service (by rw [hu])
    have hkept : u.handedOut = u := State.handedOut_of_owes howes
    have hpower := hbusy.1
    refine ⟨fun hreset hgood => ?_, fun hpending => ?_⟩
    · by_cases hloss : ∃ cut, c = .powerLoss cut
      · obtain ⟨cut, rfl⟩ := hloss
        rw [exec_powerLoss (by rw [hpower]; decide), exec_powerLoss (by rw [hu]; exact hpower ▸ nofun), hu]
        rfl
      · exact exec_handedOut hreset hgood (fun cut h => hloss ⟨cut, h⟩) hs hkept
    · have hupending : u.pending = [] := by
        rw [hu]
        exact hpending
      unfold step
      rw [hpending, hupending]
      refine congrArg Host.Outcome.next ?_
      unfold State.second
      rw [hs, hkept]
  case unlock =>
    have hgate := hready.runs_gate (r := .unlock handover) rfl rfl (by rw [ha]; decide) nofun nofun hmet
    have hkind : requestAllows (.unlock handover) (s.credential i).kind = true :=
      requestAllows_unlock (hkinds.imp_right Or.inl) handover
    have hcalm := hready.1
    obtain ⟨_, _, _, _, hidle, _⟩ := hready.2.2
    have hawake : s.access ≠ .dormant := by
      rw [ha]
      decide
    have hwipe : (s.credential i).kind ≠ .wipe := by rcases hkinds with h | h <;> rw [h] <;> decide
    have hserve : ∀ e : Envelope, (s.passed t e).serveUnlock (Service.entered s t e .gateReset) i auth.secret handover =
        (s.passed t e).unlockLocked (Service.entered s t e .gateReset) i auth.secret handover := fun e =>
      (if_neg hwipe).trans (if_pos ha)
    refine ⟨fun keys view loaded hkeys hnodup hview hloaded => ?loads, fun hnone hhandover => ⟨_, rfl, ?mismatch⟩,
      fun h0 h1 => ⟨_, rfl, ?invalid⟩⟩
    case invalid => exact State.runs_acting hgate hkind hcalm hidle ((hserve _).trans (if_pos ⟨h0, h1⟩))
    case mismatch =>
      have hvalid : ¬ (handover ≠ 0 ∧ handover ≠ 1) := fun h => hhandover.elim h.1 h.2
      refine (State.runs_acting (u := s.markCorrupt i) hgate hkind hcalm hidle
        ((hserve _).trans ((if_neg hvalid).trans ?_))).trans rfl
      rw [show State.unwrapCurrent (s.passed t _) i auth.secret = none from hnone]
      rfl
    case loads =>
      subst hview
      have hdistinct : (loaded.map RangeKey.range).Nodup := hloaded ▸ nodup_ranges_filter hnodup
      have hload : ∀ e : Envelope, ¬ (handover ≠ 0 ∧ handover ≠ 1) →
          (s.passed t e).unlockLocked (Service.entered s t e .gateReset) i auth.secret handover =
            ((s.passed t e).unlockLoad (s.copies.layout.openView s.capacity (s.credential i).wraps) loaded
              (decide (handover = 0))).unlockAnswer (Service.entered s t e .gateReset) (decide (handover = 0))
              (.unlocked (s.copies.layout.openView s.capacity (s.credential i).wraps).capacity loaded.length 0) := fun e h => by
        refine (if_neg h).trans ?_
        rw [show (s.passed t e).unwrapCurrent i auth.secret = some keys from hkeys, hloaded]
        rfl
      refine ⟨fun hnow => ⟨_, rfl, ?now⟩, fun hlater => ⟨_, rfl, ?_⟩⟩
      case now =>
        refine (State.runs_acting (u := s.sessionLoaded loaded .opened
          (some (s.copies.layout.openView s.capacity (s.credential i).wraps)) none) hgate hkind hcalm hidle
          ((hserve _).trans ((hload _ (fun h => h.1 hnow)).trans ?_))).trans rfl
        rw [decide_eq_true hnow, State.unlockLoad_now (by exact hawake) hdistinct]
        rfl
      · have hne : handover ≠ 0 := by
          rw [hlater]
          decide
        have hpending : ∀ e : Envelope, (s.passed t e).serveUnlock (Service.entered s t e .gateReset) i auth.secret handover =
            ((s.sessionLoaded loaded .staged s.view
              (some (s.copies.layout.openView s.capacity (s.credential i).wraps))).passed t e).unlockAnswer
              (Service.entered s t e .gateReset) false
              (.unlocked (s.copies.layout.openView s.capacity (s.credential i).wraps).capacity loaded.length 0) := fun e => by
          rw [hserve, hload _ (fun h => h.2 hlater), decide_eq_false hne, State.unlockLoad_pending (by exact hawake) hdistinct]
          rfl
        have hstays : ∀ v : Service, v.discard = false → ¬ (false || v.discard) = true := fun v h => by
          rw [h]
          decide
        refine ⟨fun hfollows => ?answered, fun hfollows => ?waits⟩
        case answered =>
          refine (State.runs_acting (u := (s.sessionLoaded loaded .staged s.view
            (some (s.copies.layout.openView s.capacity (s.credential i).wraps))).drawn) hgate hkind hcalm hidle
            ((hpending _).trans ?_)).trans rfl
          have hlast : ¬ Config.answerFollows s.draws = true := by
            rw [hfollows]
            decide
          exact (if_neg (hstays _ rfl)).trans (if_neg hlast)
        case waits =>
          refine State.runs_keeping (u := (s.sessionLoaded loaded .staged s.view
            (some (s.copies.layout.openView s.capacity (s.credential i).wraps))).drawn) hgate hkind hidle
            ((hpending _).trans ((if_neg (hstays _ rfl)).trans (if_pos hfollows))) ?_
          refine (State.settle_answering (v := Service.entered s t _ (.answering _)) (by rfl) (by rfl) (by rfl)
            (by exact hcalm.sessionEnd) (by exact hcalm.held) (by exact hcalm.lane) (by exact hcalm.dataLane)).trans ?_
          rw [← ha]
          rfl

/-- Settles O37. -/
theorem unlockReloadsInOpen : Obligations.UnlockReloadsInOpen := by
  unfold Obligations.UnlockReloadsInOpen
  refine ⟨fun s tag t auth i handover hready => ⟨fun keys w loaded ha hkinds hmet hview hkeys hnodup hloaded => ⟨_, rfl, ?opened⟩,
    fun ha => ?refused⟩, fun s v i secret handover keys loaded w hbusy hstage hrequest hserved hauth hqueue ha hresume hview hwriter
      howed hkinds hkeys hnodup hloaded => ?asleep⟩
  case refused =>
    obtain ⟨hcalm, hfree, hslot, _⟩ := hready
    have hservice : s.InService := ha.imp_right fun h => .inr (.inl h)
    refine congrArg Host.Outcome.next
      (State.offer_wrongState (r := .unlock handover) hcalm hfree hservice (blockSlot_of_toNat hslot) rfl (.inl rfl) ?_)
    rcases ha with ha | ha <;> simp [State.entryServes, ha]
  case opened =>
    have hgate := hready.runs_gate (r := .unlock handover) rfl rfl (by rw [ha]; decide) nofun nofun hmet
    have hkind : requestAllows (.unlock handover) (s.credential i).kind = true :=
      requestAllows_unlock (hkinds.imp_right Or.inl) handover
    have hcalm := hready.1
    obtain ⟨_, _, _, _, hidle, _⟩ := hready.2.2
    have hawake : s.access ≠ .dormant := by
      rw [ha]
      decide
    have hserved : s.access ≠ .locked := by
      rw [ha]
      decide
    have hserve : ∀ e : Envelope, (s.passed t e).serveUnlock (Service.entered s t e .gateReset) i auth.secret handover =
        ((s.reloaded loaded).passed t e).answer .good (.unlocked w.capacity loaded.length
          (keys.filter fun k => w.shows k.range && decide (s.slots[k.range].state = .draining)).length) := fun e => by
      refine (State.serveUnlock_opened (u := s.passed t e) (v := Service.entered s t e .gateReset)
        (by rcases hkinds with h | h <;> exact h ▸ nofun) hserved hcalm.sessionEnd ((State.sessionAccess_awake hawake).trans ha) hview
        hkeys hnodup hloaded).trans ?_
      rw [State.asleepLockOn_awake (by exact hawake)]
      rfl
    exact (State.runs_acting hgate hkind (hcalm.reloaded loaded) hidle (hserve _)).trans rfl
  case asleep =>
    obtain ⟨hpower, hv, hdiscard, hstruck, hlane, hdata, hend, hheld⟩ := hbusy
    refine exec_channelTold hpower hv (by rw [hstage]; rfl) hwriter ?_
    let a : State := { s.withCounters ⟨0, 0⟩ with writer := ⟨none, []⟩ }
    have hsession : a.sessionAccess = .opened := by
      rw [State.sessionAccess, if_pos (by exact ha), show a.resume = _ from hresume]
      rfl
    have hallowed : requestAllows v.request (a.credential i).kind = true := by
      rw [hrequest]
      exact requestAllows_unlock (hkinds.imp_right Or.inl) handover
    have htold : (s.landWrite ⟨.counters ⟨0, 0⟩, [.channel]⟩).channelTold = a.serveUnlock v i secret handover := by
      rw [State.landWrite_counters, hwriter, State.channelTold_gateReset (v := v) (by exact hv) hstruck hstage hauth]
      refine (if_neg (by exact howed)).trans ((if_pos hallowed).trans ?_)
      unfold State.effect
      rw [hrequest]
    have hserve := State.serveUnlock_opened (u := a) (v := v) (i := i) (secret := secret) (handover := handover)
      (by rcases hkinds with h | h <;> exact h ▸ nofun) (by rw [hserved]; decide) hend hsession hview hkeys hnodup hloaded
    rw [htold, hserve, State.asleepLockOn_dormant (s := a.reloaded loaded) ha (.inl ⟨hresume, hview⟩),
      State.answer_eq (s := (a.reloaded loaded).afterLockOn w LockOn.lowPower) (v := v) (by exact hv) hdiscard]
    exact State.settle_afterLockOn (x := a.reloaded loaded)
      (State.Calm.reloaded (s := { a with service := none }) ⟨hpower, rfl, hqueue, hlane, hdata, hend, hheld⟩ loaded) rfl w _ _ _ _ _

end

section
/-! Proofs/Wipes.lean: how a wipe begins, by a request or in DORMANT (R68, R111, R142, R146, R147), and how a recorded one is resumed
in FAULT (R143, R159). -/

open Sys2Proof Sys2Proof.Machine

namespace Sys2Proof.Machine

/-! ## Triggers (R141, R146, R147) -/

theorem State.keepOwner_iff (s : State) : s.keepOwner = true ↔ s.copies.policy.final = true ∧
    s.copies.credentials[(0 : SlotIndex)].corrupt = false ∧
    ∃ c, s.copies.credentials[(0 : SlotIndex)].record = some c ∧ c.kind = .owner := by
  unfold State.keepOwner
  simp [-Fin.getElem_fin, Option.any_eq_true, and_assoc]

/-- A wipe begun in FAULT with cause SELF_TEST is to end there (R150). -/
def State.begunInFault (s : State) (r : Reason) (d : Depth) : State :=
  { s.wipeBegun r d s.keepOwner with engine := ⟨some ⟨.purgeWrite, r, d, s.keepOwner, 0, true⟩, s.engine.sanitize⟩ }

theorem State.trigger_inFault {s : State} (hservice : s.service = none) (hnone : s.noneForwarded = true)
    (hjob : s.engine.job = none) (hidle : s.writer = ⟨none, []⟩) (haccess : s.access = .fault)
    (hcause : s.faultCause = some .selfTest) (r : Reason) (d : Depth) : s.trigger r d = s.begunInFault r d := by
  have hflag : (decide (s.access = .fault) && decide (s.faultCause = some .selfTest)) = true := by
    rw [haccess, hcause]
    decide
  unfold State.trigger
  rw [if_neg (by simp [hjob])]
  dsimp only
  rw [hflag, State.purge_eq hservice hnone, State.engineWrite_idle (s := s.purged) hidle]
  rfl

theorem State.Calm.begunInFault {s : State} (h : s.Calm) (r : Reason) (d : Depth) : (s.begunInFault r d).Calm :=
  h.wipeBegun r d s.keepOwner

/-- The answer of a request past its gate, before the follow-ups (R104, R121). -/
theorem State.passed_answered {s : State} (h : s.Calm) (hidle : s.writer = ⟨none, []⟩) (t : Tag) (e : Envelope) (st : Status)
    (f : Response) : (s.passed t e).answer st f = s.grantedAnswer t st e.request.code f := by
  rw [State.answer_eq (s := s.passed t e) rfl rfl]
  have hentry : (s.table.set t Entry.ofControl).set t Entry.free = s.table.set t Entry.free := Vector.set_set ..
  simp only [State.passed, State.answered, State.grantedAnswer, State.granted, Service.entered, hentry]
  rw [← hidle, ← h.service]

theorem State.Calm.grantedAnswer {s : State} (h : s.Calm) (t : Tag) (st : Status) (code : Nat) (f : Response) :
    (s.grantedAnswer t st code f).Calm := h

theorem State.noneForwarded_grantedAnswer {s : State} {t : Tag} (hfree : s.table[t].state = .free) (hnone : s.noneForwarded = true)
    (st : Status) (code : Nat) (f : Response) : (s.grantedAnswer t st code f).noneForwarded = true :=
  (State.noneForwarded_set (by rw [hfree]; decide) (by decide)).trans hnone

/-- A write in progress: the writer begins nothing. -/
theorem State.writerOn_busy {s : State} {w : RecordWrite} {q : List RecordWrite} (h : s.writer = ⟨some w, q⟩) : s.writerOn = s := by
  unfold State.writerOn
  rw [h]
  show ({ s with writer := ⟨some w, q⟩ } : State) = s
  rw [← h]

/-! ## WIPE (R142, R143) -/

theorem State.inStoreFault_iff (s : State) : s.inStoreFault = true ↔ s.access = .fault ∧ s.faultCause = some .store := by
  simp [State.inStoreFault]

/-- WIPE with no wipe in progress, outside FAULT with cause STORE (R142). -/
theorem State.serveWipe_ordered {s : State} (hjob : s.engine.job = none) (hfault : s.inStoreFault = false) :
    s.serveWipe = (s.answer .good (.wipe .order s.copies.policy.depth)).trigger .order s.copies.policy.depth := by
  unfold State.serveWipe State.orderedReason State.orderedDepth
  rw [hjob, hfault]
  rfl

/-- WIPE with no wipe in progress, in FAULT with cause STORE (R143). -/
theorem State.serveWipe_recovery {s : State} (hjob : s.engine.job = none) (hfault : s.inStoreFault = true) :
    s.serveWipe = (s.answer .good (.wipe .recovery (if s.scan.policyTorn then .mediaAndImage else s.copies.policy.depth))).trigger
      .recovery (if s.scan.policyTorn then .mediaAndImage else s.copies.policy.depth) := by
  unfold State.serveWipe State.orderedReason State.orderedDepth
  rw [hjob, hfault]
  rfl

/-! ## The resume of a recorded wipe (R143, R159) -/

/-- The layout a wipe writes, entry by entry (R148). -/
theorem WipeJob.layout_eq {j : WipeJob} {l m : Layout} (h : ∀ q : RangeIndex, m[q] =
    if q = 0 then { RangeEntry.global with generation := l[q].generation + 1 }
    else if j.keepOwner = true ∧ j.depth ≠ .mediaAndImage ∧ l[q].defined = true ∧ l[q].image = true
      then { l[q] with generation := l[q].generation + 1 }
    else { RangeEntry.undefined with generation := l[q].generation + 1 }) : j.layout l = m := by
  refine vector_ext fun q => ?_
  unfold WipeJob.layout
  rw [vector_get_ofFn, h q]
  unfold RangeEntry.wiped
  simp only [Bool.and_eq_true, decide_eq_true_eq, and_assoc]

/-- The part in WIPING with a recorded wipe that is being resumed (R143). -/
def State.resuming (u : State) (j : WipeJob) : State :=
  { u with
    access := .wiping, faultCause := none, latch := false, view := some View.empty, pendingView := none, engine := ⟨some j, none⟩ }

section
variable {u : State} {j : WipeJob}

theorem State.resumeWipe_purge (hidle : u.writer = ⟨none, []⟩) (hphase : u.copies.wipe.phase = .purge)
    (hkeep : j.keepOwner = u.keepOwner) : (u.resuming j).resumeWipe = { u.resuming j with
      engine := ⟨some { j with stage := .layoutWrite }, none⟩
      writer := ⟨some ⟨.layout (j.layout u.copies.layout), [.engine]⟩, []⟩ } := by
  have hsame : ({ j with keepOwner := (u.resuming j).keepOwner } : WipeJob) = j := by
    show ({ j with keepOwner := u.keepOwner } : WipeJob) = j
    rw [← hkeep]
  have hresume : (u.resuming j).resumeWipe = (u.resuming j).rewriteLayout j := by
    unfold State.resumeWipe
    show (match u.copies.wipe.phase with | .sanitize => _ | _ => _) = _
    rw [hphase]
    refine (if_pos hkeep.symm).trans ?_
    rw [hsame]
  rw [hresume]
  exact State.engineWrite_idle (s := u.resuming j) hidle j .layoutWrite _

theorem State.resumeWipe_decided (hidle : u.writer = ⟨none, []⟩) (hphase : u.copies.wipe.phase = .purge)
    (hdiffers : j.keepOwner ≠ u.keepOwner) : (u.resuming j).resumeWipe = { u.resuming j with
      engine := ⟨some { j with stage := .purgeWrite, keepOwner := u.keepOwner }, none⟩
      writer := ⟨some ⟨.wipe ⟨.purge, some j.reason, some j.depth, some u.keepOwner, none, none⟩, [.engine]⟩, []⟩ } := by
  have hresume : (u.resuming j).resumeWipe = (u.resuming j).engineWrite { j with keepOwner := u.keepOwner } .purgeWrite
      (.wipe (WipeJob.purgeRecord { j with keepOwner := u.keepOwner })) := by
    unfold State.resumeWipe
    show (match u.copies.wipe.phase with | .sanitize => _ | _ => _) = _
    rw [hphase]
    exact if_neg (Ne.symm hdiffers)
  rw [hresume]
  exact State.engineWrite_idle (s := u.resuming j) hidle _ .purgeWrite _

theorem State.resumeWipe_sanitize {c : Nat} (hphase : u.copies.wipe.phase = .sanitize) (hcursor : u.copies.wipe.cursor = some c)
    (hexcluded : ¬ (j.keepOwner = true ∧ j.depth = .media)) (hroom : c + 4096 ≤ u.capacity) (hout : u.outstanding = []) :
    (u.resuming j).resumeWipe = (u.resuming j).stepsSent j c 4 := by
  have hresume : (u.resuming j).resumeWipe = (u.resuming j).startSanitize j c := by
    unfold State.resumeWipe
    show (match u.copies.wipe.phase with | .sanitize => _ | _ => _) = _
    rw [hphase]
    show State.startSanitize _ _ (u.copies.wipe.cursor.getD 0) = _
    rw [hcursor]
    rfl
  rw [hresume]
  exact State.startSanitize_four (s := u.resuming j) nofun hexcluded hroom hout

/-- WIPE in FAULT that finds a recorded wipe answers, and resumes it (R143). -/
theorem State.serveWipe_resumes {s : State} {selfTest : Bool} (hjob : s.engine = ⟨some j, none⟩) (haccess : s.access = .fault)
    (hcause : selfTest = decide (s.faultCause = some .selfTest)) (hu : s.answer .good (.wipe j.reason j.depth) = u)
    (huaccess : u.access = .fault) (huengine : u.engine = ⟨some j, none⟩) :
    s.serveWipe = (u.resuming { j with fromSelfTestFault := selfTest }).resumeWipe := by
  have hwiping : u.enterWiping = { u with access := .wiping, latch := false, view := some View.empty, pendingView := none } := by
    unfold State.enterWiping
    rw [State.enter_leaves (by rw [huaccess]; decide) (by decide)]
    rfl
  have hresumes : s.serveWipe = s.resumeOrdered j := by
    unfold State.serveWipe
    rw [hjob]
    exact if_pos haccess
  rw [hresumes]
  unfold State.resumeOrdered
  rw [hu, hwiping, ← hcause]
  unfold State.resuming
  rw [huengine]

end

end Sys2Proof.Machine

/-- Settles O38. -/
theorem wipeBegins : Obligations.WipeBegins := by
  unfold Obligations.WipeBegins
  refine ⟨State.keepOwner_iff, fun s tag t auth hjob hnone => ⟨fun i hready => ?gated, fun hcalm hfree hslot hidle ha hcause d hd => ?store⟩,
    fun s v i secret hbusy hstage hauth hqueue ha hjob hnone hwriter howed => ?asleep,
    fun s u tag t auth j selfTest cs hjob ha hidle hcases => ?resumed⟩
  case gated =>
    have hcalm := hready.1
    have hfree := hready.2.1.2
    obtain ⟨_, _, _, _, hidle, _⟩ := hready.2.2
    have hgnone : ∀ st code f, (s.grantedAnswer t st code f).noneForwarded = true := State.noneForwarded_grantedAnswer hfree hnone
    have hallows : ∀ {k : CredentialKind}, k = .owner ∨ k = .wipe → requestAllows .wipe k = true := fun h =>
      (requestAllows_iff (r := .wipe) rfl _).mpr (by simpa using h)
    have hwipe : ∀ {w : State}, (∃ served, gatedIn .wipe = some served ∧ s.access ∈ served) → s.TakesBlock .wipe →
        (s.credential i).kind = .owner ∨ (s.credential i).kind = .wipe →
        (s.grantedAnswer t .good 81 (.wipe .order s.copies.policy.depth)).trigger .order s.copies.policy.depth = w →
        w.writerOn.settle = w → runs (s.offer (.request tag auth .wipe)) [.storeWriteCompletion, .storeWriteCompletion] = .next w := by
      rintro w ⟨served, hr, ha⟩ htakes hkinds hw hsettled
      rw [hready.runs_pastGate hr rfl ha htakes nofun nofun, State.pastGate_effect t auth.secret (hallows hkinds)]
      have hstore : s.inStoreFault = false := by
        rw [Bool.eq_false_iff]
        intro h
        obtain ⟨h1, h2⟩ := (State.inStoreFault_iff s).mp h
        exact htakes rfl h1 h2
      have heffect : ∀ e : Envelope, e.request.code = 81 → (s.passed t e).serveWipe = w := fun e he => by
        rw [State.serveWipe_ordered (s := s.passed t e) hjob hstore, ← hw]
        show State.trigger (State.answer _ _ (.wipe .order s.copies.policy.depth)) _ s.copies.policy.depth = _
        rw [State.passed_answered hcalm hidle, he]
      have : (s.passed t ⟨.wipe, some (i, auth.secret)⟩).effect (Service.entered s t ⟨.wipe, some (i, auth.secret)⟩ .gateReset) i
          auth.secret = w := heffect _ rfl
      rw [this, hsettled]
    refine ⟨fun ha hkinds => ⟨_, rfl, ?order⟩, fun ha hcause hkinds => ⟨_, rfl, ?fault⟩, fun handover ha hkind hmet => ⟨_, rfl, ?duress⟩⟩
    case order =>
      have hfault : s.access ≠ .fault := by rcases ha with h | h | h <;> rw [h] <;> decide
      refine hwipe ⟨_, rfl, by rcases ha with h | h | h <;> rw [h] <;> decide⟩ (fun _ h => absurd h hfault) hkinds
        (State.trigger_begun (s := s.grantedAnswer _ _ _ _) hcalm.service (hgnone _ _ _) hjob hidle (fun h => hfault h.1) _ _) ?_
      rw [State.writerOn_busy (by rfl)]
      exact State.settle_calm (State.Calm.wipeBegun (hcalm.grantedAnswer _ _ _ _) _ _ _)
    case fault =>
      refine hwipe ⟨_, rfl, by rw [ha]; decide⟩ (fun _ _ h => by rw [hcause] at h; cases h) hkinds
        (State.trigger_inFault (s := s.grantedAnswer _ _ _ _) hcalm.service (hgnone _ _ _) hjob hidle ha hcause _ _) ?_
      rw [State.writerOn_busy (by rfl)]
      exact State.settle_calm (State.Calm.begunInFault (hcalm.grantedAnswer t _ _ _) _ _)
    case duress =>
      have hfault : s.access ≠ .fault := by rcases ha with h | h <;> rw [h] <;> decide
      have hserved : s.access ∈ [Access.locked, .opened] := by simpa using ha
      rw [hready.runs_gate (r := .unlock handover) rfl rfl hserved nofun nofun hmet,
        State.pastGate_effect t auth.secret (requestAllows_unlock (.inr (.inr hkind)) handover)]
      have heffect : (s.passed t ⟨.unlock handover, some (i, auth.secret)⟩).effect
          (Service.entered s t ⟨.unlock handover, some (i, auth.secret)⟩ .gateReset) i auth.secret =
          (s.grantedAnswer t .wiped 18 .noFields).triggerWipe .duress :=
        (if_pos hkind).trans (congrArg (State.triggerWipe · .duress) (State.passed_answered hcalm hidle t _ .wiped .noFields))
      have hbegun : (s.grantedAnswer t .wiped 18 .noFields).triggerWipe .duress =
          (s.grantedAnswer t .wiped 18 .noFields).wipeBegun .duress s.copies.policy.depth s.keepOwner :=
        State.trigger_begun (s := s.grantedAnswer _ _ _ _) hcalm.service (hgnone _ _ _) hjob hidle (fun h => hfault h.1) _ _
      rw [heffect, hbegun, State.writerOn_busy (by rfl)]
      exact congrArg Host.Outcome.next (State.settle_calm (State.Calm.wipeBegun (hcalm.grantedAnswer t _ _ _) _ _ _))
  case store =>
    obtain ⟨slot, hslot⟩ := Option.ne_none_iff_exists'.mp hslot
    have hstore : s.inStoreFault = true := (State.inStoreFault_iff s).mpr ⟨ha, hcause⟩
    have hneed : requestNeed .wipe s.inStoreFault = .ignored := by
      rw [hstore]
      rfl
    refine congrArg Host.Outcome.next ((State.offer_ungated hcalm hfree hslot rfl hneed (by rw [ha]; rfl)
      (by simp [State.entryServes, ha])).trans ?_)
    have heffect : ∀ e : Envelope, e.request.code = 81 → (s.entered t e).serveWipe =
        (s.answered t .good 81 (.wipe .recovery d)).wipeBegun .recovery d s.keepOwner := fun e he => by
      rw [State.serveWipe_recovery (s := s.entered t e) hjob hstore]
      show State.trigger (State.answer _ _ (.wipe .recovery (if s.scan.policyTorn then _ else s.copies.policy.depth))) _
        (if s.scan.policyTorn then _ else s.copies.policy.depth) = _
      rw [← hd, State.entered_answer hcalm, he]
      refine State.trigger_begun (s := s.answered t .good 81 (.wipe .recovery d)) hcalm.service
        ((State.noneForwarded_set (by rw [hfree.2]; decide) (by decide)).trans hnone) hjob hidle (fun ⟨_, h⟩ => ?_) _ _
      have hself : s.faultCause = some .selfTest := h
      rw [hcause] at hself
      cases hself
    exact (congrArg State.settle (heffect _ rfl)).trans
      (State.settle_calm (State.Calm.wipeBegun (s := s.answered t .good 81 (.wipe .recovery d)) hcalm _ _ _))
  case asleep =>
    obtain ⟨hpower, hv, hdiscard, hstruck, hlane, hdata, hend, hheld⟩ := hbusy
    let a : State := { s.withCounters ⟨0, 0⟩ with writer := ⟨none, []⟩ }
    have hawake : s.access ≠ .fault := by
      rw [ha]
      decide
    have htold : requestAllows v.request (s.credential i).kind = true →
        (s.landWrite ⟨.counters ⟨0, 0⟩, [.channel]⟩).channelTold = a.effect v i secret := fun hallowed => by
      rw [State.landWrite_counters, hwriter, State.channelTold_gateReset (v := v) (by exact hv) hstruck hstage hauth]
      exact (if_neg (by exact howed)).trans (if_pos hallowed)
    let b : Status → Response → State := fun st f => { a.answered v.tag st v.code f with service := none }
    have hanswer : ∀ st f, a.answer st f = b st f := State.answer_eq hv hdiscard
    have hcalm : ∀ st f, (b st f).Calm := fun _ _ => ⟨hpower, rfl, hqueue, hlane, hdata, hend, hheld⟩
    have hbegun : ∀ st f r, (b st f).trigger r s.copies.policy.depth = (b st f).wipeBegun r s.copies.policy.depth s.keepOwner :=
      fun st f r => State.trigger_begun (s := b st f) rfl
        ((State.noneForwarded_set ((State.noneForwarded_iff s).mp hnone _) (by decide)).trans hnone) hjob rfl
        (fun h => hawake h.1) r _
    have hexec : ∀ {st f r}, requestAllows v.request (s.credential i).kind = true →
        a.effect v i secret = (b st f).trigger r s.copies.policy.depth →
        exec .storeWriteCompletion s = .next ((b st f).wipeBegun r s.copies.policy.depth s.keepOwner) := fun hallowed heffect => by
      refine exec_channelTold hpower hv (by rw [hstage]; rfl) hwriter ?_
      rw [htold hallowed, heffect, hbegun, State.writerOn_busy (by rfl)]
      exact State.settle_calm ((hcalm _ _).wipeBegun _ _ _)
    refine ⟨fun hrequest hkinds => hexec ?_ ?_, fun handover hrequest hkind => hexec ?_ ?_⟩
    · rw [hrequest]
      exact (requestAllows_iff (r := .wipe) rfl _).mpr (by simpa using hkinds)
    · unfold State.effect
      rw [hrequest]
      have hstore : a.inStoreFault = false := Bool.eq_false_iff.mpr fun h => hawake ((State.inStoreFault_iff a).mp h).1
      refine (State.serveWipe_ordered (s := a) hjob hstore).trans ?_
      rw [hanswer]
      rfl
    · rw [hrequest]
      exact requestAllows_unlock (.inr (.inr hkind)) handover
    · unfold State.effect
      rw [hrequest]
      refine (if_pos hkind).trans ?_
      unfold State.duress State.answerPlain
      rw [hanswer]
      rfl
  case resumed =>
    let j' : WipeJob := { j with fromSelfTestFault := selfTest }
    obtain ⟨hcalm, haccess, hengine, hwriter, hcopies, hkeep, hcapacity, hout, hdown⟩ : u.Calm ∧ u.access = .fault ∧
        u.engine = ⟨some j, none⟩ ∧ u.writer = ⟨none, []⟩ ∧ (u.copies.wipe = s.copies.wipe ∧ u.copies.layout = s.copies.layout) ∧
        u.keepOwner = s.keepOwner ∧ u.capacity = s.capacity ∧ u.outstanding = s.outstanding ∧ u.downstream = s.downstream := by
      rcases hcases with ⟨_, _, hcalm, _, _, _, rfl⟩ | ⟨_, _, ⟨i, ⟨hcalm, _⟩, _⟩, _, rfl⟩ <;>
        exact ⟨hcalm, ha, hjob, hidle, ⟨rfl, rfl⟩, rfl, rfl, rfl, rfl⟩
    obtain ⟨hwipe, hlayout⟩ := hcopies
    obtain ⟨a, hexec, hruns⟩ : ∃ a, exec (.wipe tag auth) s = .next a ∧ ∀ w : State, (u.resuming j').resumeWipe = w → w.Calm →
        w.writerOn = w → runs a cs = .next w := by
      rcases hcases with ⟨hcause, rfl, hscalm, hfree, hslot, rfl, rfl⟩ | ⟨hcause, rfl, ⟨i, hready, hkinds⟩, rfl, rfl⟩
      · obtain ⟨slot, hslot⟩ := Option.ne_none_iff_exists'.mp hslot
        have hneed : requestNeed .wipe s.inStoreFault = .ignored := by
          rw [(State.inStoreFault_iff s).mpr ⟨ha, hcause⟩]
          rfl
        refine ⟨_, rfl, fun w hw hwcalm _ => congrArg Host.Outcome.next ?_⟩
        refine (State.offer_ungated hscalm hfree hslot rfl hneed (by rw [ha]; rfl) (by simp [State.entryServes, ha])).trans ?_
        have hself : false = decide (s.faultCause = some .selfTest) := by
          rw [hcause]
          rfl
        have heffect : ∀ e : Envelope, e.request.code = 81 → (s.entered t e).serveWipe = w := fun e he =>
          (State.serveWipe_resumes (s := s.entered t e) hjob ha hself
            ((State.entered_answer hscalm t e _ _).trans (by rw [he])) haccess hengine).trans hw
        exact (congrArg State.settle (heffect _ rfl)).trans (State.settle_calm hwcalm)
      · have hscalm := hready.1
        have hallowed : requestAllows .wipe (s.credential i).kind = true :=
          (requestAllows_iff (r := .wipe) rfl _).mpr (by simpa using hkinds)
        refine ⟨_, rfl, fun w hw hwcalm hwon => ?_⟩
        refine (hready.runs_pastGate (r := .wipe) rfl rfl (by rw [ha]; decide)
          (fun _ _ h => by rw [hcause] at h; cases h) nofun nofun).trans ?_
        rw [State.pastGate_effect t auth.secret hallowed]
        have hself : true = decide (s.faultCause = some .selfTest) := by
          rw [hcause]
          rfl
        have heffect : ∀ e : Envelope, e.request.code = 81 → (s.passed t e).serveWipe = w := fun e he =>
          (State.serveWipe_resumes (s := s.passed t e) hjob ha hself
            ((State.passed_answered hscalm hidle t e _ _).trans (by rw [he])) haccess hengine).trans hw
        have heq := congrArg (fun x : State => x.writerOn.settle) (heffect ⟨.wipe, some (i, auth.secret)⟩ rfl)
        exact congrArg Host.Outcome.next (heq.trans ((congrArg State.settle hwon).trans (State.settle_calm hwcalm)))
    refine ⟨a, hexec, fun l hphase hsame hl => ?purge, fun hphase hdiffers => ?decided, fun c hphase hcursor hexcluded hroom hnone => ?sanitize⟩
    case purge =>
      rw [← WipeJob.layout_eq (j := j) (l := s.copies.layout) hl, ← hlayout]
      exact hruns _ (State.resumeWipe_purge hwriter (hwipe ▸ hphase) (hsame.trans hkeep.symm)) hcalm rfl
    case decided =>
      rw [← hkeep]
      exact hruns _ (State.resumeWipe_decided hwriter (hwipe ▸ hphase) (fun h => hdiffers (h.trans hkeep))) hcalm rfl
    case sanitize =>
      rw [← hdown]
      refine hruns _ (State.resumeWipe_sanitize (hwipe ▸ hphase) (hwipe ▸ hcursor) hexcluded (hcapacity ▸ hroom) (hout.trans hnone))
        hcalm ?_
      exact State.writerOn_idle hwriter

end

section
/-! Proofs/Sanitize.lean: the completions of the sanitize's steps, the frontier and the end of the sanitize (R153 to R157). -/

open Sys2Proof Sys2Proof.Machine

namespace Sys2Proof.Machine

/-! ## The frontier (R156) -/

theorem le_foldl_min {m : Nat} (l : List Nat) (a : Nat) : m ≤ l.foldl min a ↔ m ≤ a ∧ ∀ x ∈ l, m ≤ x := by
  induction l generalizing a with
  | nil => simp
  | cons x l ih => simp [ih, and_assoc]

theorem Sanitize.mem_issuedStarts {z : Sanitize} {n : Nat} :
    n ∈ z.issuedStarts ↔ ∃ q ∈ z.steps, q.state = .issued ∧ q.start = n := by
  simp [Sanitize.issuedStarts, and_assoc]

/-- The frontier is the greatest number at most the issue pointer and the start of every ISSUED step. -/
theorem Sanitize.le_reached {z : Sanitize} {m : Nat} :
    m ≤ z.reached ↔ m ≤ z.issue ∧ ∀ q ∈ z.steps, q.state = .issued → m ≤ q.start := by
  rw [Sanitize.reached, le_foldl_min]
  refine and_congr_right fun _ => ⟨fun h q hq hi => h _ (Sanitize.mem_issuedStarts.2 ⟨q, hq, hi, rfl⟩), fun h x hx => ?_⟩
  obtain ⟨q, hq, hi, rfl⟩ := Sanitize.mem_issuedStarts.1 hx
  exact h q hq hi

theorem Sanitize.reached_le_issue (z : Sanitize) : z.reached ≤ z.issue := (Sanitize.le_reached.1 le_rfl).1

theorem Sanitize.reached_le_start {z : Sanitize} {q : SanitizeStep} (hq : q ∈ z.steps) (hi : q.state = .issued) :
    z.reached ≤ q.start := (Sanitize.le_reached.1 le_rfl).2 q hq hi

theorem State.advanceFrontier_stays {s : State} {z : Sanitize} (hz : s.engine.sanitize = some z) (h : z.reached ≤ z.frontier)
    (j : WipeJob) : s.advanceFrontier j = s := by
  unfold State.advanceFrontier
  rw [hz]
  exact if_neg (Nat.not_lt.2 h)

theorem State.advanceFrontier_rises {s : State} {z : Sanitize} {m : Nat} (hz : s.engine.sanitize = some z)
    (hm : z.reached = m) (h : z.frontier < m) (hidle : s.writer = ⟨none, []⟩) (j : WipeJob) :
    s.advanceFrontier j = { s with
      engine := { s.engine with sanitize := some { z with frontier := m } }
      writer := ⟨some ⟨.wipe (j.sanitizeRecord m), []⟩, []⟩ } := by
  unfold State.advanceFrontier State.requestWrite
  rw [hz]
  dsimp only
  rw [hm, if_pos h, hidle]
  rfl

theorem State.endSanitizeIfDone_not {s : State} {z : Sanitize} (hz : s.engine.sanitize = some z) (h : z.issuedStarts ≠ [])
    (j : WipeJob) : s.endSanitizeIfDone j = s := by
  unfold State.endSanitizeIfDone
  rw [hz]
  exact if_neg fun hdone => h hdone.2

/-- With every step done and nothing left to issue the sanitize ends (R157). -/
theorem State.endSanitizeIfDone_ends {s : State} {z : Sanitize} (hz : s.engine.sanitize = some z)
    (hissue : s.capacity ≤ z.issue) (h : z.issuedStarts = []) (j : WipeJob) : s.endSanitizeIfDone j = s.beginFinish j := by
  unfold State.endSanitizeIfDone
  rw [hz]
  exact if_pos ⟨hissue, h⟩

/-! ## The step on a sub-tag (R153, R154) -/

/-- The sanitize with the next step made on a sub-tag (R153). -/
def Sanitize.withStep (z : Sanitize) (subTag n e : Nat) : Sanitize :=
  { z with
    issue := e
    steps := z.steps.filter (fun q => decide (q.subTag ≠ subTag)) ++ [⟨z.issue, n, subTag, .issued, false⟩] }

/-- The next step has been made on a sub-tag and sent (R153, R154). -/
def State.stepMade (s : State) (j : WipeJob) (z : Sanitize) (subTag n e : Nat) : State :=
  { s with
    outstanding := insertNat subTag s.outstanding
    downstream := s.downstream ++ [.command .deallocate subTag z.issue n]
    engine := ⟨some j, some (z.withStep subTag n e)⟩ }

theorem State.issueStep_room {s : State} {j : WipeJob} {z : Sanitize} (hz : s.engine = ⟨some j, some z⟩)
    (hroom : z.issue < s.capacity) (subTag : Nat) :
    State.issueStep j s subTag = s.stepMade j z subTag (stepLength s.capacity (s.excluded j) z.issue)
      (jumpOver (s.excluded j) (z.issue + stepLength s.capacity (s.excluded j) z.issue)) := by
  unfold State.issueStep
  rw [hz]
  dsimp only
  rw [if_pos hroom]
  rfl

theorem State.issueStep_full {s : State} {j : WipeJob} {z : Sanitize} (hz : s.engine = ⟨some j, some z⟩)
    (hfull : s.capacity ≤ z.issue) (subTag : Nat) : State.issueStep j s subTag = s := by
  unfold State.issueStep
  rw [hz]
  exact if_neg (Nat.not_lt.2 hfull)

theorem le_jumpOver (x : Option Extent) (a : Nat) : a ≤ jumpOver x a := by
  unfold jumpOver
  split
  next e => split <;> omega
  next => exact le_rfl

/-- The step that has just been made is ISSUED, so the sanitize goes on. -/
theorem Sanitize.issuedStarts_withStep (z : Sanitize) (subTag n e : Nat) : (z.withStep subTag n e).issuedStarts ≠ [] := by
  refine List.ne_nil_of_mem (a := z.issue) (Sanitize.mem_issuedStarts.2 ⟨⟨z.issue, n, subTag, .issued, false⟩, ?_, rfl, rfl⟩)
  exact List.mem_append_right _ (List.mem_singleton.2 rfl)

theorem Sanitize.mem_withStep {z : Sanitize} {subTag n e : Nat} {q : SanitizeStep} :
    q ∈ (z.withStep subTag n e).steps ↔ (q ∈ z.steps ∧ q.subTag ≠ subTag) ∨ q = ⟨z.issue, n, subTag, .issued, false⟩ := by
  simp [Sanitize.withStep]

/-- The next step goes on the sub-tag alone: what the step before it on that sub-tag was makes no difference. -/
theorem Sanitize.withStep_updateStep (z : Sanitize) (subTag n e : Nat) (f : SanitizeStep → SanitizeStep)
    (hf : ∀ q, (f q).subTag = q.subTag) : (z.updateStep subTag f).withStep subTag n e = z.withStep subTag n e := by
  have hsteps : ((z.updateStep subTag f).steps.filter fun q => decide (q.subTag ≠ subTag)) =
      z.steps.filter fun q => decide (q.subTag ≠ subTag) := by
    unfold Sanitize.updateStep
    dsimp only
    induction z.steps with
    | nil => rfl
    | cons q qs ih =>
        by_cases hq : q.subTag = subTag <;> simp_all
  unfold Sanitize.withStep
  rw [hsteps]
  rfl

/-- Behind a step that is still ISSUED at the frontier the next step leaves the frontier as it is (R156). -/
theorem State.settleSanitize_stays {s : State} {j : WipeJob} {z : Sanitize} {subTag n e : Nat}
    (h : ∃ q ∈ z.steps, q.subTag ≠ subTag ∧ q.state = .issued ∧ q.start ≤ z.frontier) :
    (s.stepMade j z subTag n e).settleSanitize j = s.stepMade j z subTag n e := by
  obtain ⟨q, hq, hother, hissued, hstart⟩ := h
  have hreached : (z.withStep subTag n e).reached ≤ z.frontier :=
    (Sanitize.reached_le_start (Sanitize.mem_withStep.2 (.inl ⟨hq, hother⟩)) hissued).trans hstart
  unfold State.settleSanitize
  rw [State.advanceFrontier_stays (z := z.withStep subTag n e) rfl hreached,
    State.endSanitizeIfDone_not (z := z.withStep subTag n e) rfl (Sanitize.issuedStarts_withStep z subTag n e)]

/-- With no step ISSUED at or below the frontier it rises to the lowest start of an ISSUED step, and the wipe record with it as
cursor is written (R156). -/
theorem State.settleSanitize_rises {s : State} {j : WipeJob} {z : Sanitize} {subTag n e m : Nat} (he : z.issue ≤ e)
    (hrise : z.frontier < m) (hm : m ≤ z.issue)
    (hall : ∀ q ∈ z.steps, q.subTag ≠ subTag → q.state = .issued → m ≤ q.start)
    (hone : m = z.issue ∨ ∃ q ∈ z.steps, q.subTag ≠ subTag ∧ q.state = .issued ∧ q.start = m) (hidle : s.writer = ⟨none, []⟩) :
    (s.stepMade j z subTag n e).settleSanitize j = { s.stepMade j z subTag n e with
      engine := ⟨some j, some { z.withStep subTag n e with frontier := m }⟩
      writer := ⟨some ⟨.wipe (j.sanitizeRecord m), []⟩, []⟩ } := by
  have hreached : (z.withStep subTag n e).reached = m := by
    refine Nat.le_antisymm ?_ (Sanitize.le_reached.2 ⟨hm.trans he, fun q hq hi => ?_⟩)
    · rcases hone with rfl | ⟨q, hq, hother, hissued, rfl⟩
      · exact Sanitize.reached_le_start (q := ⟨z.issue, n, subTag, .issued, false⟩) (Sanitize.mem_withStep.2 (.inr rfl)) rfl
      · exact Sanitize.reached_le_start (Sanitize.mem_withStep.2 (.inl ⟨hq, hother⟩)) hissued
    · rcases Sanitize.mem_withStep.1 hq with ⟨hq', hother⟩ | rfl
      · exact hall q hq' hother hi
      · exact hm
  have hrisen := State.advanceFrontier_rises (s := s.stepMade j z subTag n e) (z := z.withStep subTag n e) rfl hreached hrise
    (by exact hidle) j
  unfold State.settleSanitize
  rw [hrisen]
  exact State.endSanitizeIfDone_not (z := { z.withStep subTag n e with frontier := m }) rfl
    (Sanitize.issuedStarts_withStep z subTag n e) j

/-! ## The end of the sanitize (R157) -/

/-- The frontier has risen to the issue pointer at the end of the sanitize, and the finish's first write joins behind the
cursor's (R150, R157). -/
theorem State.settleSanitize_ends {s : State} {j : WipeJob} {z : Sanitize} (hz : s.engine = ⟨some j, some z⟩)
    (hfull : s.capacity ≤ z.issue) (hdone : ∀ q ∈ z.steps, q.state = .done) (hrise : z.frontier < z.issue)
    (haccess : s.access = .wiping) (hidle : s.writer = ⟨none, []⟩) :
    (j.keepOwner = true → s.settleSanitize j = { s with
      engine := ⟨some { j with stage := .finishNone }, some { z with frontier := z.issue }⟩
      writer := ⟨some ⟨.wipe (j.sanitizeRecord z.issue), []⟩, [⟨.wipe j.doneRecord, [.engine]⟩]⟩ }) ∧
    (j.keepOwner = false → s.settleSanitize j = { s with
      draws := s.draws + 1
      engine := ⟨some { j with stage := .finishOwner }, some { z with frontier := z.issue }⟩
      writer := ⟨some ⟨.wipe (j.sanitizeRecord z.issue), []⟩, [⟨.credential 0 s.newBlankSlot, [.engine]⟩]⟩ }) := by
  have hnone : z.issuedStarts = [] := by
    refine List.eq_nil_iff_forall_not_mem.2 fun n hn => ?_
    obtain ⟨q, hq, hissued, _⟩ := Sanitize.mem_issuedStarts.1 hn
    rw [hdone q hq] at hissued
    exact absurd hissued (by decide)
  have hreached : z.reached = z.issue := by
    unfold Sanitize.reached
    rw [hnone]
    rfl
  have hrisen := State.advanceFrontier_rises (s := s) (j := j) (by rw [hz]) hreached hrise hidle
  have hsettled : s.settleSanitize j = State.beginFinish { s with
      engine := { s.engine with sanitize := some { z with frontier := z.issue } }
      writer := ⟨some ⟨.wipe (j.sanitizeRecord z.issue), []⟩, []⟩ } j := by
    unfold State.settleSanitize
    rw [hrisen]
    exact State.endSanitizeIfDone_ends (s := { s with
      engine := { s.engine with sanitize := some { z with frontier := z.issue } }
      writer := ⟨some ⟨.wipe (j.sanitizeRecord z.issue), []⟩, []⟩ }) (z := { z with frontier := z.issue }) rfl hfull hnone j
  have hawake : s.access ≠ .dormant := by rw [haccess]; decide
  rw [hsettled]
  unfold State.beginFinish
  refine ⟨fun hkeep => ?_, fun hkeep => ?_⟩
  · rw [if_neg (by exact hawake), if_pos hkeep]
    unfold State.writeDone State.engineWrite
    rw [State.requestWrite_queued (by simp)]
    rfl
  · rw [if_neg (by exact hawake), if_neg (by rw [hkeep]; decide)]
    unfold State.engineWrite
    rw [State.requestWrite_queued (by simp [State.drawn])]
    rfl

/-! ## Completions (R155) -/

/-- A sub-tag has left the outstanding set (R49, R50). -/
def State.withoutSubTag (s : State) (n : Nat) : State := { s with outstanding := removeNat n s.outstanding }

/-- A downstream completion on an outstanding sub-tag of the Wipe Engine goes to its step (R49, R155). -/
theorem State.takeCompletion_step {s : State} {n : Nat} (code : Byte) (x : Sector) (h : 64 ≤ n) (ho : n ∈ s.outstanding) :
    s.takeCompletion n code x = (s.withoutSubTag n).stepCompletion n (backEndStatus code) := by
  have htag : tagOfSubTag n = none := dif_neg (by omega)
  unfold State.takeCompletion State.routeCompletion
  rw [if_pos ho, htag]
  rfl

theorem backEndStatus_mediaError {code : Byte} (h0 : code ≠ 0) (h5 : code ≠ 5) : backEndStatus code = .mediaError := by
  have h0' : code ≠ Status.code .good := h0
  have h5' : code ≠ Status.code .aborted := h5
  unfold backEndStatus
  rw [if_neg h0', if_neg h5']

section
variable {s : State} {n : Nat} {j : WipeJob} {z : Sanitize} {p : SanitizeStep}

theorem Sanitize.find_subTag (hp : (z.steps.find? fun q => decide (q.subTag = n) && decide (q.state = .issued)) = some p) :
    p.subTag = n := by
  have h := List.find?_some hp
  simp only [Bool.and_eq_true, decide_eq_true_eq] at h
  exact h.1

theorem State.stepCompletion_aborted (hz : s.engine = ⟨some j, some z⟩)
    (hp : (z.steps.find? fun q => decide (q.subTag = n) && decide (q.state = .issued)) = some p) :
    s.stepCompletion n .aborted = s.sendStep p := by
  unfold State.stepCompletion
  rw [hz]
  dsimp only
  rw [hp]

theorem State.stepCompletion_firstError (hz : s.engine = ⟨some j, some z⟩)
    (hp : (z.steps.find? fun q => decide (q.subTag = n) && decide (q.state = .issued)) = some p) (he : p.mediaError = false) :
    s.stepCompletion n .mediaError =
      (s.setSanitize j (z.updateStep n fun q => { q with mediaError := true })).sendStep p := by
  unfold State.stepCompletion
  rw [hz]
  dsimp only
  rw [hp]
  exact if_neg (by rw [he]; decide)

/-- GOOD makes a step DONE, and so does a second MEDIA_ERROR, which counts it skipped (R155). -/
theorem State.stepCompletion_done {i : WipeJob} {code : Byte} (hz : s.engine = ⟨some j, some z⟩)
    (hp : (z.steps.find? fun q => decide (q.subTag = n) && decide (q.state = .issued)) = some p)
    (hi : (code = 0 ∧ i = j) ∨
      (code ≠ 0 ∧ code ≠ 5 ∧ p.mediaError = true ∧ i = { j with skipped := min s.capacity (j.skipped + p.length) })) :
    s.stepCompletion n (backEndStatus code) = s.stepDone i z p := by
  unfold State.stepCompletion
  rw [hz]
  dsimp only
  rw [hp]
  rcases hi with ⟨rfl, rfl⟩ | ⟨h0, h5, he, rfl⟩
  · rfl
  · rw [backEndStatus_mediaError h0 h5]
    exact if_pos he

end

/-- The step on a sub-tag is DONE (R155). -/
def Sanitize.withDone (z : Sanitize) (subTag : Nat) : Sanitize := z.updateStep subTag fun q => { q with state := .done }

theorem State.stepDone_eq (s : State) (j : WipeJob) (z : Sanitize) (p : SanitizeStep) :
    s.stepDone j z p = ((s.setSanitize j (z.withDone p.subTag)).issueStep j p.subTag).settleSanitize j := rfl

/-- With media left the DONE step's sub-tag takes the next step (R154). -/
theorem State.stepDone_room {s : State} {i : WipeJob} {z : Sanitize} {p : SanitizeStep} (hroom : z.issue < s.capacity)
    {n e : Nat} (hn : n = stepLength s.capacity (s.excluded i) z.issue) (he : e = jumpOver (s.excluded i) (z.issue + n)) :
    s.stepDone i z p = (s.stepMade i z p.subTag n e).settleSanitize i := by
  have hissued := State.issueStep_room (s := s.setSanitize i (z.withDone p.subTag)) (j := i) rfl hroom p.subTag
  have hsame : (s.setSanitize i (z.withDone p.subTag)).stepMade i (z.withDone p.subTag) p.subTag n e =
      s.stepMade i z p.subTag n e := by
    unfold State.stepMade
    rw [show (z.withDone p.subTag).withStep p.subTag n e = _ from Sanitize.withStep_updateStep z p.subTag n e _ fun _ => rfl]
    rfl
  subst hn he
  rw [State.stepDone_eq]
  exact congrArg (State.settleSanitize · i) (hissued.trans hsame)

theorem State.stepDone_full {s : State} {i : WipeJob} {z : Sanitize} {p : SanitizeStep} (hfull : s.capacity ≤ z.issue) :
    s.stepDone i z p = (s.setSanitize i (z.withDone p.subTag)).settleSanitize i := by
  rw [State.stepDone_eq, State.issueStep_full (s := s.setSanitize i (z.withDone p.subTag)) rfl hfull]

end Sys2Proof.Machine

/-- Settles O40, by the step's fate, and for a DONE step by the media left: the frontier is the lowest start of an ISSUED step. -/
theorem sanitizeStepCompletes : Obligations.SanitizeStepCompletes := by
  unfold Obligations.SanitizeStepCompletes
  intro s subTag code x j z p hcalm htag hout hz hp o ho
  have hsub := Sanitize.find_subTag hp
  have htaken := State.takeCompletion_step (s := s) code x htag hout
  have hexec : ∀ {u : State}, s.takeCompletion subTag.toNat code x = u → u.Calm →
      exec (.downstreamCompletion subTag code x) s = .next u := fun hu hc =>
    outcome_next_congr (State.event_calm_eq hcalm hu hc)
  have hout' : insertNat subTag.toNat (removeNat subTag.toNat s.outstanding) = o := ho.symm
  have hsent : ∀ a : State, a.outstanding = removeNat subTag.toNat s.outstanding → a.sendStep p =
      { a with outstanding := o, downstream := a.downstream ++ [.command .deallocate subTag.toNat p.start p.length] } := by
    intro a ha
    unfold State.sendStep State.sendDown
    rw [hsub, ha, hout']
  refine ⟨fun hcode => hexec ?aborted hcalm, fun h0 h5 he => hexec ?error hcalm, fun i hi => ⟨?room, ?full⟩⟩
  case aborted =>
    subst hcode
    rw [htaken]
    exact (State.stepCompletion_aborted (s := s.withoutSubTag subTag.toNat) hz hp).trans (hsent _ rfl)
  case error =>
    rw [htaken, backEndStatus_mediaError h0 h5, State.stepCompletion_firstError (s := s.withoutSubTag subTag.toNat) hz hp he, hsent _ rfl]
    rfl
  case room =>
    intro n e u hroom hplain hexcluded hu
    have hsame : s.excluded i = s.excluded j := by
      rcases hi with ⟨-, rfl⟩ | ⟨-, -, -, rfl⟩ <;> rfl
    have hlength : n = stepLength s.capacity (s.excluded i) z.issue ∧ e = jumpOver (s.excluded i) (z.issue + n) := by
      rw [hsame]
      cases hx : s.excluded j with
      | none => exact hplain hx
      | some y => exact hexcluded y hx
    have hmade : u = (s.withoutSubTag subTag.toNat).stepMade i z subTag.toNat n e := by
      unfold State.stepMade State.withoutSubTag
      rw [hout', hu]
      rfl
    have hdone : s.takeCompletion subTag.toNat code x = u.settleSanitize i := by
      rw [htaken, State.stepCompletion_done (s := s.withoutSubTag subTag.toNat) hz hp hi, State.stepDone_room (s := s.withoutSubTag subTag.toNat) hroom hlength.1 hlength.2, hsub]
      refine congrArg (State.settleSanitize · i) ?_
      exact hmade.symm
    refine ⟨fun hstays => hexec ?stays ?_, fun m hrise hm hall hone hidle => hexec ?rises ?_⟩
    case stays =>
      rw [hdone, hmade]
      exact State.settleSanitize_stays hstays
    · rw [hu]
      exact hcalm
    case rises =>
      have he : z.issue ≤ e := by
        rw [hlength.2]
        exact (Nat.le_add_right _ _).trans (le_jumpOver _ _)
      rw [hdone, hmade, State.settleSanitize_rises (s := s.withoutSubTag subTag.toNat) he hrise hm hall hone hidle]
      rfl
    · rw [hu]
      exact hcalm
  case full =>
    intro u hfull hall hrise haccess hidle hu
    have hdone : s.takeCompletion subTag.toNat code x =
        ((s.withoutSubTag subTag.toNat).setSanitize i
          (z.withDone subTag.toNat)).settleSanitize i := by
      rw [htaken, State.stepCompletion_done (s := s.withoutSubTag subTag.toNat) hz hp hi, State.stepDone_full (s := s.withoutSubTag subTag.toNat) hfull, hsub]
    have hsteps : ∀ q ∈ (z.withDone subTag.toNat).steps, q.state = .done := by
      intro q hq
      obtain ⟨q', hq', rfl⟩ := List.mem_map.1 hq
      by_cases hsame : q'.subTag = subTag.toNat
      · rw [if_pos hsame]
      · rw [if_neg hsame]
        exact hall q' hq' hsame
    obtain ⟨hkept, hfresh⟩ := State.settleSanitize_ends (j := i)
      (s := (s.withoutSubTag subTag.toNat).setSanitize i
        (z.withDone subTag.toNat)) rfl hfull hsteps hrise haccess hidle
    refine ⟨fun hkeep => hexec ?_ (by rw [hu]; exact hcalm), fun hkeep => hexec ?_ (by rw [hu]; exact hcalm)⟩
    · rw [hdone, hkept hkeep, hu, if_pos hkeep]
      unfold WipeJob.sanitizeRecord
      rw [hkeep]
      rfl
    · rw [hdone, hfresh hkeep, hu, if_neg (by rw [hkeep]; decide)]
      unfold WipeJob.sanitizeRecord
      rw [hkeep]
      rfl
end

section
/-! Proofs/Books.lean: the laws of the outstanding set, the counts, the Store Writer and the control queue, which every step keeps
from every state (R49, R85, R87, R88, R120).

The laws read four fields. `State.Booked s u` says that each law of `s` still holds of `u`; most operations leave the fields as they
are, and the others change them by one of a few moves: a sub-tag enters or leaves the outstanding set, a record write is requested,
the write in progress lands. -/

open Sys2Proof Sys2Proof.Machine

namespace Sys2Proof.Machine

/-! ## The laws and the moves -/

/-- At most one write is queued for each record (R88). -/
def Writer.Distinct (w : Writer) : Prop := (w.queue.map fun x => x.content.record).Nodup

/-- No write is queued behind an idle writer (R87). -/
def Writer.Busy (w : Writer) : Prop := w.current = none → w.queue = []

/-- Both counts are bounded in the working copy and in every write requested (R85). -/
def Writer.Bounded (w : Writer) (c : Counters) : Prop :=
  c.legal = true ∧ (∀ x ∈ w.current, x.content.countsBounded = true) ∧ ∀ x ∈ w.queue, x.content.countsBounded = true

/-- What the laws read. -/
def State.books (s : State) : List Nat × Counters × Writer := (s.outstanding, s.copies.counters, s.writer)

/-- Each law of the outstanding set, the counts and the Store Writer that holds before holds after. -/
def BooksKept (a b : List Nat × Counters × Writer) : Prop :=
  (a.1.Pairwise (· < ·) → b.1.Pairwise (· < ·)) ∧ (a.2.2.Bounded a.2.1 → b.2.2.Bounded b.2.1) ∧
    (a.2.2.Distinct → b.2.2.Distinct) ∧ (a.2.2.Busy → b.2.2.Busy)

/-- Each law of the outstanding set, the counts and the Store Writer that holds of `s` holds of `u`. -/
def State.Booked (s u : State) : Prop := BooksKept s.books u.books

/-- An operation that leaves what the laws read as it is. -/
theorem State.Booked.of_books {s u w : State} (h : s.Booked u) (he : w.books = u.books) : s.Booked w := by
  unfold State.Booked
  rw [he]
  exact h

theorem State.Booked.refl (s : State) : s.Booked s := ⟨id, id, id, id⟩

theorem insertNat_sorted {l : List Nat} (h : l.Pairwise (· < ·)) (n : Nat) : (insertNat n l).Pairwise (· < ·) := by
  unfold insertNat
  refine List.pairwise_append.2 ⟨h.filter _, List.pairwise_cons.2 ⟨fun m hm => ?_, h.filter _⟩, fun a ha b hb => ?_⟩
  · simpa using (List.mem_filter.1 hm).2
  · have hlt : a < n := by simpa using (List.mem_filter.1 ha).2
    rcases List.mem_cons.1 hb with rfl | hb
    · exact hlt
    · exact hlt.trans (by simpa using (List.mem_filter.1 hb).2)

theorem mem_joinQueue {c : Content} {who : List Waiter} {q : List RecordWrite} {w : RecordWrite} (h : w ∈ joinQueue c who q) :
    w.content = c ∨ w ∈ q := by
  unfold joinQueue at h
  split at h
  · obtain ⟨x, hx, rfl⟩ := List.mem_map.1 h
    split
    · exact .inl rfl
    · exact .inr hx
  · rcases List.mem_append.1 h with h | h
    · exact .inr h
    · exact .inl (by rw [List.mem_singleton.1 h])

theorem bump_le (n : Nat) : bump n ≤ 255 := Nat.min_le_left _ _

section
variable {s u : State} (h : s.Booked u)
include h

/-- A sub-tag enters the outstanding set (R49). -/
theorem State.Booked.insertSubTag (n : Nat) : s.Booked { u with outstanding := insertNat n u.outstanding } :=
  ⟨fun hs => insertNat_sorted (h.1 hs) n, h.2⟩

/-- A sub-tag leaves the outstanding set (R49). -/
theorem State.Booked.removeSubTag (n : Nat) : s.Booked { u with outstanding := removeNat n u.outstanding } :=
  ⟨fun hs => (h.1 hs).filter _, h.2⟩

/-- A record write is requested; a write of the counters record is of bounded counts (R85, R87, R88). -/
theorem State.Booked.requestWrite {c : Content} (hc : u.CountsBounded → c.countsBounded = true) (who : List Waiter) :
    s.Booked (u.requestWrite c who) := by
  obtain ⟨hsorted, hcounts, hdistinct, hbusy⟩ := h
  unfold State.requestWrite
  split
  · refine ⟨hsorted, fun hs => ⟨(hcounts hs).1, fun w hw => ?_, nofun⟩, fun _ => List.nodup_nil, fun _ => nofun⟩
    obtain rfl := Option.some.inj hw
    exact hc (hcounts hs)
  · rename_i hnot
    refine ⟨hsorted, fun hs => ⟨(hcounts hs).1, (hcounts hs).2.1, fun w hw => ?_⟩, fun hs => joinQueue_nodup (hdistinct hs),
      fun hs hidle => absurd ⟨hidle, hbusy hs hidle⟩ hnot⟩
    rcases mem_joinQueue hw with rfl | hw
    · exact hc (hcounts hs)
    · exact (hcounts hs).2.2 w hw

theorem State.Booked.foldl {α : Type} {f : State → α → State} (hf : ∀ w a, s.Booked w → s.Booked (f w a)) (l : List α) :
    s.Booked (l.foldl f u) := by
  induction l generalizing u with
  | nil => exact h
  | cons a l ih => exact ih (hf u a h)

/-! ## Slots, locks and access -/

theorem State.Booked.notifyIf (b : Bool) (n : NoticeName) : s.Booked (u.notifyIf b n) := by
  unfold State.notifyIf
  split <;> exact h

theorem State.Booked.releaseSegment (g : Segment) : s.Booked (u.releaseSegment g) := by
  unfold State.releaseSegment
  split <;> exact h

theorem State.Booked.bothLockAll (rs : List RangeIndex) : s.Booked (u.bothLockAll rs) := h.foldl (f := State.bothLock) (fun _ _ hw => hw) rs

theorem State.Booked.loadRanges (ks : List RangeKey) : s.Booked (u.loadRanges ks) := h.foldl (f := State.loadRange) (fun _ _ hw => hw) ks

theorem State.Booked.applyLocks (cs : List LockChange) : s.Booked (cs.foldl State.applyLocks u) := by
  refine h.foldl (fun w c hw => ?_) cs
  unfold State.applyLocks
  (repeat' split) <;> exact hw

theorem State.Booked.lockOn (v : View) (f : LockOn → Bool) : s.Booked (u.lockOn v f) := (h.bothLockAll _).notifyIf _ _

theorem State.Booked.lowPowerLockOn : s.Booked u.lowPowerLockOn := by
  unfold State.lowPowerLockOn
  split <;> first | exact h.lockOn _ _ | exact h

theorem State.Booked.asleepLockOn : s.Booked u.asleepLockOn := by
  unfold State.asleepLockOn
  split
  · exact h.lowPowerLockOn
  · exact h

theorem State.Booked.linkResetLockOn : s.Booked u.linkResetLockOn := by
  unfold State.linkResetLockOn
  split
  · exact h.lockOn _ _
  · exact h

theorem State.Booked.enter (a : Access) : s.Booked (u.enter a) := by
  unfold State.enter
  split <;> exact h

theorem State.Booked.reachBlank : s.Booked u.reachBlank := by
  unfold State.reachBlank
  split
  · exact State.Booked.enter h .blank
  · exact State.Booked.enter (u := u.markCorrupt 0) h .fault

theorem State.Booked.takeLayout (l : Layout) : s.Booked (u.takeLayout l) := by
  unfold State.takeLayout
  dsimp only
  split <;> exact h

theorem State.Booked.markSessionEnd : s.Booked u.markSessionEnd := h.bothLockAll allRanges

/-! ## Answers and waits -/

theorem State.Booked.answer (st : Status) (f : Response) : s.Booked (u.answer st f) := by
  unfold State.answer
  (repeat' split) <;> exact h

theorem State.Booked.answerPlain (st : Status) : s.Booked (u.answerPlain st) := h.answer st .noFields

theorem State.Booked.awaitWrite (v : Service) (g : Stage) {c : Content} (hc : u.CountsBounded → c.countsBounded = true) :
    s.Booked (u.awaitWrite v g c) := State.Booked.requestWrite (u := u.stage v g) h hc _

theorem State.Booked.completeSessionEnd : s.Booked u.completeSessionEnd := by
  have hlocked : s.Booked ({ u with sessionEnd := false } : State).enterLocked :=
    State.Booked.enter (u := { u with sessionEnd := false }) h .locked
  unfold State.completeSessionEnd
  dsimp only
  split
  · exact hlocked.answerPlain _
  · exact hlocked

theorem State.Booked.enclosureLock : s.Booked u.enclosureLock := by
  unfold State.enclosureLock
  split
  · exact h.markSessionEnd
  · exact h.markSessionEnd
  · exact h

theorem State.Booked.startBackoff : s.Booked u.startBackoff := by
  unfold State.startBackoff
  split <;> exact h

/-! ## The Command Table and the ports -/

theorem State.Booked.closeEntry (t : Tag) : s.Booked (u.closeEntry t) := by
  unfold State.closeEntry
  (repeat' split) <;> exact h.of_books rfl

theorem State.Booked.finishSegment (t : Tag) (g : Segment) : s.Booked (u.finishSegment t g) := by
  unfold State.finishSegment
  dsimp only
  split
  · exact (State.Booked.releaseSegment (u := { u.updateSegment t g.subTag Segment.finished with
      writeHeld := dropHeld g.subTag u.writeHeld }) h g).closeEntry t
  · exact State.Booked.closeEntry (u := { u.updateSegment t g.subTag Segment.finished with
      writeHeld := dropHeld g.subTag u.writeHeld }) h t

theorem State.Booked.releaseEntry (t : Tag) : s.Booked (u.releaseEntry t) := h.foldl (fun _ g hw => hw.releaseSegment g) _

theorem State.Booked.abortEntry (t : Tag) : s.Booked (u.abortEntry t) := by
  unfold State.abortEntry
  split
  · exact State.Booked.closeEntry (u := (u.releaseEntry t).setEntry t _) (h.releaseEntry t) t
  · exact h

theorem State.Booked.orphanEntry (t : Tag) : s.Booked (u.orphanEntry t) := by
  unfold State.orphanEntry
  split
  · exact State.Booked.closeEntry (u := (u.releaseEntry t).setEntry t _) (h.releaseEntry t) t
  all_goals exact h

theorem State.Booked.dropHeldSectors : s.Booked u.dropHeldSectors := h.of_books rfl

theorem State.Booked.abortTable : s.Booked u.abortTable :=
  (h.foldl (f := State.abortEntry) (fun _ t hw => hw.abortEntry t) allTags).dropHeldSectors

theorem State.Booked.orphanTable : s.Booked u.orphanTable :=
  (h.foldl (f := State.orphanEntry) (fun _ t hw => hw.orphanEntry t) allTags).dropHeldSectors

theorem State.Booked.bind (t : Tag) (k : Kind) (v c : Nat) (gs : List Segment) (x : Option Nat) :
    s.Booked (u.bind t k v c gs x) := by
  refine h.foldl (f := State.bindSegment k) (fun w g hw => ?_) gs
  unfold State.bindSegment
  split
  · exact State.Booked.insertSubTag (u := w.raiseUse _) hw _
  · exact hw.insertSubTag _

theorem State.Booked.admitData (t : Tag) (k : Kind) (c : Capsule) : s.Booked (u.admitData t k c) := by
  unfold State.admitData State.admitAddressed
  (repeat' split) <;> first | exact h.bind _ _ _ _ _ _ | exact h

theorem State.Booked.takeSector (d : DataSector) : s.Booked (u.takeSector d) := by
  have hreceived : ∀ t g k x, s.Booked (u.receiveSector t g k x) := by
    intro t g k x
    unfold State.receiveSector
    dsimp only
    split <;> exact h
  unfold State.takeSector
  (repeat' split) <;> first | exact hreceived _ _ _ _ | exact h

theorem State.Booked.takeReadSector (n k : Nat) (x : Sector) : s.Booked (u.takeReadSector n k x) := by
  unfold State.takeReadSector State.routeReadSector State.deliverSector
  (repeat' split) <;> exact h

theorem State.Booked.readSectorPasses (n k : Nat) : s.Booked (u.readSectorPasses n k) := by
  have hpassed : ∀ t g x, s.Booked (u.passSector t g x) := by
    intro t g x
    rw [State.passSector_eq]
    split
    · exact State.Booked.finishSegment (u := u.sectorPassed t g x) h _ _
    · exact h
  unfold State.readSectorPasses
  (repeat' split) <;> first | exact hpassed _ _ _ | exact h

theorem State.Booked.writeSectorGoes (n : Nat) : s.Booked (u.writeSectorGoes n) := by
  unfold State.writeSectorGoes
  split <;> exact h

theorem State.Booked.zeroSectorGoes (n k : Nat) : s.Booked (u.zeroSectorGoes n k) := by
  unfold State.zeroSectorGoes
  (repeat' split) <;> exact h

theorem State.Booked.segmentCompletion (t : Tag) (g : Segment) (st : Status) (x : Sector) :
    s.Booked (u.segmentCompletion t g st x) := by
  unfold State.segmentCompletion
  dsimp only
  split
  · exact h
  · exact State.Booked.finishSegment (u := u.setEntry t _) h _ _

/-! ## The Wipe Engine -/

theorem State.Booked.engineWrite (j : WipeJob) (g : WipeStage) {c : Content} (hc : c.countsBounded = true) :
    s.Booked (u.engineWrite j g c) :=
  State.Booked.requestWrite (u := { u with engine := { u.engine with job := some { j with stage := g } } }) h (fun _ => hc) _

theorem State.Booked.strikeService : s.Booked u.strikeService := by
  unfold State.strikeService
  (repeat' split) <;> first | exact h.answerPlain _ | exact h

theorem State.Booked.purgeUnit : s.Booked u.purgeUnit :=
  (State.Booked.enter (u := State.notify { u with backoff := none, latch := false } .wipeStarted) h .wiping).of_books rfl

theorem State.Booked.purge : s.Booked u.purge := by
  have hemptied : ∀ w : State, s.Booked w → s.Booked { w.emptySlots with sessionEnd := false } := fun _ hw => hw
  exact (State.Booked.strikeService (u := u.purgeKeys) (hemptied _ h.abortTable)).purgeUnit

theorem State.Booked.trigger (r : Reason) (d : Depth) : s.Booked (u.trigger r d) := by
  unfold State.trigger
  split
  · exact h
  · exact h.purge.engineWrite _ _ (by rfl)

theorem State.Booked.rewriteOwner (j : WipeJob) : s.Booked (u.rewriteOwner j) := by
  unfold State.rewriteOwner
  split
  · exact h.engineWrite _ _ (by rfl)
  · exact State.Booked.engineWrite (u := u.drawn) h _ _ (by rfl)

theorem State.Booked.beginFinish (j : WipeJob) : s.Booked (u.beginFinish j) := by
  unfold State.beginFinish
  (repeat' split)
  · exact h
  · exact h.engineWrite _ _ (by rfl)
  · exact State.Booked.engineWrite (u := u.drawn) h _ _ (by rfl)

theorem State.Booked.endWipe (j : WipeJob) : s.Booked (u.endWipe j) := by
  have hended : s.Booked (({ u with engine := ⟨none, none⟩ } : State).notify .wipeDone) := h
  unfold State.endWipe
  dsimp only
  (repeat' split)
  · exact hended.enter .fault
  · exact hended.enter .locked
  · exact hended.reachBlank

theorem State.Booked.issueStep (j : WipeJob) (n : Nat) : s.Booked (State.issueStep j u n) := by
  unfold State.issueStep
  (repeat' split)
  · exact h
  · rename_i z _ _
    exact State.Booked.insertSubTag (u := { u with engine := _ }) h _
  · exact h

theorem State.Booked.settleSanitize (j : WipeJob) : s.Booked (u.settleSanitize j) := by
  have hrisen : s.Booked (u.advanceFrontier j) := by
    unfold State.advanceFrontier
    (repeat' split)
    · exact h
    · exact State.Booked.requestWrite (by exact h) (fun _ => by rfl) _
    · exact h
  unfold State.settleSanitize State.endSanitizeIfDone
  (repeat' split) <;> first | exact hrisen.beginFinish j | exact hrisen

theorem State.Booked.startSanitize (j : WipeJob) (c : Nat) : s.Booked (u.startSanitize j c) := by
  unfold State.startSanitize
  split
  · exact h
  · refine State.Booked.settleSanitize ?_ _
    exact State.Booked.foldl (f := State.issueStep _) (by exact h) (fun _ n hw => hw.issueStep _ n) sanitizeSubTags

theorem State.Booked.stepCompletion (n : Nat) (st : Status) : s.Booked (u.stepCompletion n st) := by
  have hdone : ∀ j z p, s.Booked (u.stepDone j z p) := fun j z p =>
    (State.Booked.issueStep (u := u.setSanitize j _) h j p.subTag).settleSanitize j
  unfold State.stepCompletion
  (repeat' split) <;>
    first | exact hdone _ _ _ | exact h.insertSubTag _ | exact State.Booked.insertSubTag (u := u.setSanitize _ _) h _ | exact h

theorem State.Booked.resumeWipe : s.Booked u.resumeWipe := by
  unfold State.resumeWipe State.rewriteLayout
  (repeat' split)
  · exact h
  · exact h.startSanitize _ _
  · exact h.engineWrite _ _ (by rfl)
  · exact h.engineWrite _ _ (by rfl)

theorem State.Booked.wakeEngine : s.Booked u.wakeEngine := by
  unfold State.wakeEngine
  (repeat' split) <;> first | exact h.startSanitize _ _ | exact h.beginFinish _ | exact h

theorem State.Booked.engineTold : s.Booked u.engineTold := by
  unfold State.engineTold
  (repeat' split) <;>
    first | exact h.engineWrite _ _ (by rfl) | exact h.rewriteOwner _ | exact h.beginFinish _ | exact h.startSanitize _ _
          | exact h.endWipe _ | exact h

theorem State.Booked.takeCompletion (n : Nat) (c : Byte) (x : Sector) : s.Booked (u.takeCompletion n c x) := by
  have hremoved := h.removeSubTag n
  unfold State.takeCompletion State.routeCompletion
  (repeat' split) <;> first | exact hremoved.stepCompletion _ _ | exact hremoved.segmentCompletion _ _ _ _ | exact hremoved | exact h

/-! ## Requests -/

theorem State.Booked.servePresentPlatform (x : Token) : s.Booked (u.servePresentPlatform x) := by
  unfold State.servePresentPlatform
  (repeat' split)
  · exact h.answerPlain _
  · exact State.Booked.answer (u := { u with presented := true, platform := .matched }) h _ _
  · exact State.Booked.answer (u := { u with presented := true, platform := .mismatched }) h _ _
  · exact (State.Booked.answer (u := { u with presented := true, platform := .mismatched }) h _ _).trigger _ _

theorem State.Booked.mismatch (i : SlotIndex) : s.Booked (u.mismatch i) := State.Booked.answer (u := u.markCorrupt i) h _ _

theorem State.Booked.unlockLoad (w : View) (ks : List RangeKey) (now : Bool) : s.Booked (u.unlockLoad w ks now) := by
  have hloaded := fun a => (State.Booked.loadRanges (u := { u with locks := Vector.replicate 16 Locks.both }) h ks).enter a
  unfold State.unlockLoad
  dsimp only
  split
  · exact State.Booked.asleepLockOn (u := { State.enter _ .opened with view := _, pendingView := _ }) (hloaded .opened)
  · exact State.Booked.asleepLockOn (u := { State.enter _ .staged with pendingView := _ }) (hloaded .staged)

theorem State.Booked.unlockAnswer (v : Service) (now : Bool) (f : Response) : s.Booked (u.unlockAnswer v now f) := by
  unfold State.unlockAnswer
  (repeat' split)
  · exact h.answer _ _
  · exact h
  · exact State.Booked.answer (u := u.drawn) h _ _

theorem State.Booked.serveUnlock (v : Service) (i : SlotIndex) (x : Secret) (b : Byte) : s.Booked (u.serveUnlock v i x b) := by
  unfold State.serveUnlock State.unlockLocked State.unlockOpen
  (repeat' split) <;>
    first | exact h.mismatch _ | exact h.answerPlain _ | exact (h.answerPlain _).trigger _ _
          | exact (h.unlockLoad _ _ _).unlockAnswer _ _ _ | exact (h.loadRanges _).asleepLockOn.answer _ _

theorem State.Booked.serveSetCredential (v : Service) (x : Secret) (a b c : Byte) (y : Secret) (l : List Byte) :
    s.Booked (u.serveSetCredential v x a b c y l) := by
  unfold State.serveSetCredential
  dsimp only
  (repeat' split) <;>
    first | exact h.answerPlain _ | exact h.mismatch _ | exact h.awaitWrite _ _ fun _ => by rfl
          | exact State.Booked.awaitWrite (u := u.drawn) h _ _ fun _ => by rfl

theorem State.Booked.serveChangeSecret (v : Service) (i : SlotIndex) (x y : Secret) : s.Booked (u.serveChangeSecret v i x y) := by
  unfold State.serveChangeSecret
  split
  · exact h.mismatch _
  · exact State.Booked.awaitWrite (u := u.drawn) h _ _ fun _ => by rfl

theorem State.Booked.serveLock (v : Service) (i : SlotIndex) (l : List Byte) : s.Booked (u.serveLock v i l) := by
  unfold State.serveLock
  (repeat' split) <;> first | exact h.answerPlain _ | exact h.bothLockAll _

theorem State.Booked.serveSetLocks (i : SlotIndex) (es : List LockEntry) : s.Booked (u.serveSetLocks i es) := by
  unfold State.serveSetLocks
  (repeat' split) <;> first | exact h.answerPlain _ | exact (h.applyLocks _).answerPlain _

theorem State.Booked.writeLayout (v : Service) (j : RangeJob) (e : RangeEntry) : s.Booked (u.writeLayout v j e) :=
  h.awaitWrite _ _ fun _ => by rfl

theorem State.Booked.serveDefineRange (v : Service) (a b c : Byte) (m n : Nat) : s.Booked (u.serveDefineRange v a b c m n) := by
  unfold State.serveDefineRange
  split
  · exact h.answerPlain _
  · dsimp only
    (repeat' split) <;> first | exact h.answerPlain _ | exact h.writeLayout _ _ _

theorem State.Booked.serveDeleteRange (v : Service) (b : Byte) : s.Booked (u.serveDeleteRange v b) := by
  unfold State.serveDeleteRange
  (repeat' split) <;> first | exact h.answerPlain _ | exact h.writeLayout _ _ _

theorem State.Booked.serveEraseRange (v : Service) (b : Byte) : s.Booked (u.serveEraseRange v b) := by
  unfold State.serveEraseRange
  (repeat' split) <;> first | exact h.answerPlain _ | exact h

theorem State.Booked.writePolicy (v : Service) (p : Policy) (f : Response) : s.Booked (u.writePolicy v p f) :=
  h.awaitWrite _ _ fun _ => by rfl

theorem State.Booked.serveSetPolicy (v : Service) (f l a : Nat) (b c : Byte) : s.Booked (u.serveSetPolicy v f l a b c) := by
  unfold State.serveSetPolicy
  split
  · exact h.writePolicy _ _ _
  · exact h.answerPlain _

theorem State.Booked.serveBindPlatform (v : Service) (b : Byte) (x : Token) : s.Booked (u.serveBindPlatform v b x) := by
  unfold State.serveBindPlatform
  split
  · exact h.writePolicy _ _ _
  · exact h.answerPlain _

theorem State.Booked.serveFinalize (v : Service) : s.Booked (u.serveFinalize v) := by
  unfold State.serveFinalize
  split
  · exact h.answerPlain _
  · exact h.writePolicy _ _ _

theorem State.Booked.serveWipe : s.Booked u.serveWipe := by
  have hresumed : ∀ j, s.Booked (u.resumeOrdered j) := fun j =>
    State.Booked.resumeWipe (u := { State.enterWiping _ with faultCause := _, engine := _ }) ((h.answer _ _).enter .wiping)
  unfold State.serveWipe
  (repeat' split) <;> first | exact hresumed _ | exact h.answer _ _ | exact (h.answer _ _).trigger _ _

theorem State.Booked.effect (v : Service) (i : SlotIndex) (x : Secret) : s.Booked (u.effect v i x) := by
  unfold State.effect
  split
  · exact State.Booked.answer (u := { u with notices := NoticeSet.empty, attention := false }) h _ _
  · exact h.answer _ _
  · exact h.answer _ _
  · exact State.Booked.answer (u := { u with attention := true }) h _ _
  · exact h
  · exact State.Booked.awaitWrite (u := u.drawn) h _ _ fun _ => by rfl
  · exact h.servePresentPlatform _
  · exact h.serveUnlock _ _ _ _
  · exact h.serveSetCredential _ _ _ _ _ _ _
  · exact h.serveChangeSecret _ _ _ _
  · exact h.serveLock _ _ _
  · exact h.serveSetLocks _ _
  · exact h.markSessionEnd
  · exact h.serveDefineRange _ _ _ _ _ _
  · exact h.serveDeleteRange _ _
  · exact State.Booked.answer (u := { u with latch := u.latch || decide (u.access = Access.locked) }) h _ _
  · exact h.serveSetPolicy _ _ _ _ _ _
  · exact h.serveBindPlatform _ _ _
  · exact h.serveFinalize _
  · exact h.serveEraseRange _ _
  · exact h.serveWipe

theorem State.Booked.afterGate (v : Service) (i : SlotIndex) (x : Secret) : s.Booked (u.afterGate v i x) := by
  unfold State.afterGate
  split
  · exact h.effect _ _ _
  · exact h.answerPlain _

theorem State.Booked.afterReset (v : Service) (i : SlotIndex) (x : Secret) : s.Booked (u.afterReset v i x) := by
  unfold State.afterReset
  split
  · exact State.Booked.awaitWrite (u := u.drawn) h _ _ fun _ => by rfl
  · exact h.afterGate _ _ _

/-- The raised attempt count stops at 255 (R85, R100). -/
theorem State.Booked.enterGate (v : Service) (i : SlotIndex) : s.Booked (u.enterGate v i) := by
  unfold State.enterGate
  split
  · exact h.answerPlain _
  · refine h.awaitWrite _ _ fun hu => ?_
    have hlegal := hu.1
    simp only [Counters.legal, Bool.and_eq_true, decide_eq_true_eq, Content.countsBounded] at hlegal ⊢
    exact ⟨bump_le _, hlegal.2⟩

theorem State.Booked.gateVerify (v : Service) (i : SlotIndex) (x : Secret) : s.Booked (u.gateVerify v i x) := by
  unfold State.gateVerify State.gateFailed
  (repeat' split)
  · exact h.awaitWrite _ _ fun _ => by rfl
  · exact (h.answerPlain _).trigger _ _
  · exact (h.answerPlain _).startBackoff

theorem State.Booked.testRequest (v : Service) : s.Booked (u.testRequest v) := by
  have hplain : ∀ r, s.Booked (u.effectWithoutGate r v) := by
    intro r
    unfold State.effectWithoutGate
    split
    · exact h.answer _ _
    · exact h.effect _ _ _
  unfold State.testRequest
  dsimp only
  (repeat' split) <;> first | exact h.answerPlain _ | exact h.enterGate _ _ | exact hplain _

theorem State.Booked.rangeUsers (v : Service) (j : RangeJob) : s.Booked (u.rangeUsers v j) := by
  unfold State.rangeUsers
  split
  · exact h.awaitWrite _ _ fun _ => by rfl
  · exact h.answer _ _

theorem State.Booked.rangeOwner (v : Service) (x : Secret) (j : RangeJob) : s.Booked (u.rangeOwner v x j) := by
  unfold State.rangeOwner
  (repeat' split) <;>
    first | exact h.rangeUsers _ _ | exact h.awaitWrite _ _ fun _ => by rfl
          | exact State.Booked.awaitWrite (u := u.drawn) h _ _ fun _ => by rfl

theorem State.Booked.channelTold : s.Booked u.channelTold := by
  unfold State.channelTold
  (repeat' split) <;>
    first | exact h.answerPlain _ | exact h.gateVerify _ _ _ | exact h.afterReset _ _ _ | exact h.afterGate _ _ _
          | exact (h.enter .opened).answer _ _ | exact h.answer _ _ | exact h.rangeOwner _ _ _ | exact h.rangeUsers _ _ | exact h

theorem State.Booked.enterService (q : Waiting) : s.Booked (u.enterService q) := by
  unfold State.enterService
  split
  · exact h
  · exact State.Booked.testRequest (by exact h) _

theorem State.Booked.proceed : s.Booked u.proceed := by
  have hend : s.Booked u.endHold := by
    unfold State.endHold State.eraseLayout
    (repeat' split) <;> first | exact h.answerPlain _ | exact h.answer _ _ | exact h.writeLayout _ _ _ | exact h
  unfold State.proceed
  split
  · exact h.completeSessionEnd
  · exact hend

/-! ## Notices and capsules -/

theorem State.Booked.resetLink : s.Booked u.resetLink := by
  have hsession : ∀ w, s.Booked w → s.Booked w.linkResetSession := by
    intro w hw
    have hended : s.Booked (if w.sessionEndReady then w.completeSessionEnd else w) := by
      split
      · exact hw.completeSessionEnd
      · exact hw
    unfold State.linkResetSession
    dsimp only
    split
    · exact hended.enter .opened
    · exact hended.linkResetLockOn
    · exact hended
  have hreset : ∀ w, s.Booked w →
      s.Booked ((w.flushChannel.linkResetSession.clearLatch.forwardNotice .linkReset).acknowledge .linkReset .good) :=
    fun w hw => hsession w.flushChannel hw
  exact hreset _ h.orphanTable

theorem State.Booked.wake : s.Booked u.wake := by
  unfold State.wake
  dsimp only
  split
  · exact State.Booked.wakeEngine (u := { u with access := u.resume.getD .locked, resume := none }) h
  · exact h

theorem State.Booked.applyPowerEnter : s.Booked u.applyPowerEnter := by
  unfold State.applyPowerEnter
  dsimp only
  split
  · exact h
  · exact h
  · exact (State.Booked.lowPowerLockOn (u := { u with heldPowerEnter := false }) h).of_books rfl

theorem State.Booked.takeNotice (n : Notice) : s.Booked (u.takeNotice n) := by
  cases n with
  | linkReset =>
    show s.Booked u.takeLinkReset
    unfold State.takeLinkReset
    split
    · exact h.wake.resetLink
    · exact h.resetLink
  | powerEnter =>
    show s.Booked u.takePowerEnter
    unfold State.takePowerEnter
    (repeat' split) <;> exact h
  | powerExit =>
    show s.Booked u.takePowerExit
    unfold State.takePowerExit
    (repeat' split) <;> first | exact h.wake | exact h

theorem State.Booked.takeCapsule (c : Capsule) : s.Booked (u.takeCapsule c) := by
  unfold State.takeCapsule State.takeTagged State.admitCapsule State.admitControl
  (repeat' split) <;> first | exact h.takeNotice _ | exact h.admitData _ _ _ | exact h

/-! ## Power-up, the enclosure and the ends of tests and writes -/

theorem State.Booked.applyOpening : s.Booked u.applyOpening := by
  unfold State.applyOpening
  dsimp only
  (repeat' split)
  · exact h
  · exact h
  · exact State.Booked.enclosureLock (u := { u with latched := false }) h
  · exact State.Booked.trigger (u := { u with latched := false }) h _ _

theorem State.Booked.opening : s.Booked u.opening := by
  unfold State.opening
  dsimp only
  split
  · exact State.Booked.applyOpening (u := State.notify { u with level := .opened, latched := true } .enclosureOpened) h
  · exact h

theorem State.Booked.lastStep : s.Booked u.lastStep := by
  unfold State.lastStep
  dsimp only
  (repeat' split)
  · exact State.Booked.applyOpening (by exact h.startBackoff)
  · exact h.startBackoff
  · exact State.Booked.applyOpening (by exact h)
  · exact h

/-- The raised absence count stops at 255 (R85, R118). -/
theorem State.Booked.absenceStep : s.Booked u.absenceStep := by
  refine State.Booked.requestWrite (u := { u with power := .absence }) h (fun hu => ?_) _
  have hlegal := hu.1
  simp only [Counters.legal, Bool.and_eq_true, decide_eq_true_eq, Content.countsBounded] at hlegal ⊢
  exact ⟨hlegal.1, bump_le _⟩

theorem State.Booked.testEnds (b : Bool) : s.Booked (u.testEnds b) := by
  have hdecided : s.Booked u.powerUpDecision := by
    unfold State.powerUpDecision
    (repeat' split)
    · exact State.Booked.lastStep (u := u.enterFault .store) (h.enter .fault)
    · exact (State.Booked.resumeWipe (u := u.enterWiping) (h.enter .wiping)).lastStep
    · exact h.reachBlank.lastStep
    · exact h.absenceStep
  have hfailed : s.Booked u.selfTestFailed :=
    State.Booked.answer (u := State.enterFault { u.emptySlots with sessionEnd := false, latch := false } .selfTest)
      (State.Booked.enter (u := { u.emptySlots with sessionEnd := false, latch := false }) h .fault) _ _
  unfold State.testEnds
  (repeat' split) <;>
    first | exact hdecided | exact State.Booked.lastStep (u := u.enterFault .selfTest) (h.enter .fault) | exact hfailed
          | exact h.answerPlain _ | exact h

theorem State.Booked.sequenceTold : s.Booked u.sequenceTold := by
  unfold State.sequenceTold State.absenceTest
  (repeat' split) <;>
    first | exact (h.trigger _ _).lastStep | exact State.Booked.lastStep (u := u.enterLocked) (h.enter .locked) | exact h

theorem State.Booked.tell (w : Waiter) : s.Booked (u.tell w) := by
  cases w with
  | channel => exact h.channelTold
  | engine => exact h.engineTold
  | sequence => exact h.sequenceTold

end

/-- The write in progress lands: the counters' working copy takes the counts that were written (R87). -/
theorem State.landWrite_books {s : State} {w : RecordWrite} (hw : s.writer.current = some w) :
    (s.landWrite w).writer = ⟨none, s.writer.queue⟩ ∧ (s.landWrite w).outstanding = s.outstanding ∧
      (s.CountsBounded → (s.landWrite w).copies.counters.legal = true) := by
  obtain ⟨c, who⟩ := w
  have hland : ∀ x, c ≠ .counters x → s.CountsBounded → s.copies.counters.legal = true := fun _ _ hs => hs.1
  unfold State.landWrite State.takeContent
  cases c with
  | counters x => exact ⟨rfl, rfl, fun hs => hs.2.1 _ hw⟩
  | layout l =>
    unfold State.takeLayout
    dsimp only
    split <;> exact ⟨rfl, rfl, fun hs => hs.1⟩
  | _ => exact ⟨rfl, rfl, fun hs => hs.1⟩

theorem Writer.beginNext_busy (w : Writer) : w.beginNext.current = none → w.beginNext.queue = [] := by
  unfold Writer.beginNext
  split
  · nofun
  · rename_i hnot
    intro hidle
    cases hq : w.queue with
    | nil => rfl
    | cons q qs => exact absurd hq (hnot q qs hidle)

theorem Writer.beginNext_distinct {w : Writer} (h : w.Distinct) : w.beginNext.Distinct := by
  unfold Writer.beginNext
  split
  · rename_i q qs _ hq
    unfold Writer.Distinct at h
    rw [hq] at h
    exact (List.nodup_cons.1 h).2
  · exact h

/-- The writes that a writer has after it has begun the next are those it had. -/
theorem Writer.mem_beginNext (w : Writer) :
    (∀ x ∈ w.beginNext.current, x ∈ w.current ∨ x ∈ w.queue) ∧ ∀ x ∈ w.beginNext.queue, x ∈ w.queue := by
  unfold Writer.beginNext
  split
  · rename_i q qs _ hq
    rw [hq]
    refine ⟨fun x hx => ?_, fun x hx => List.mem_cons_of_mem _ hx⟩
    obtain rfl := Option.some.inj hx
    exact .inr List.mem_cons_self
  · exact ⟨fun x hx => .inl hx, fun x hx => hx⟩

/-- A write completes: between its landing and the next write's beginning the writer is idle before its queue (R87). -/
theorem State.Booked.writeCompletes {s u : State} (h : s.Booked u) {w : RecordWrite} (hw : u.writer.current = some w) :
    s.Booked (u.writeCompletes w) := by
  obtain ⟨hsorted, hcounts, hdistinct, hbusy⟩ := h
  obtain ⟨hwriter, hout, hlegal⟩ := State.landWrite_books hw
  have htold := State.Booked.foldl (State.Booked.refl (u.landWrite w)) (fun _ x hx => hx.tell x) w.waiters
  obtain ⟨tsorted, tcounts, tdistinct, -⟩ := htold
  refine ⟨fun hs => tsorted ?_, fun hs => ?_, fun hs => ?_, fun _ => Writer.beginNext_busy _⟩
  · show (u.landWrite w).outstanding.Pairwise _
    rw [hout]
    exact hsorted hs
  · have hlanded : (u.landWrite w).writer.Bounded (u.landWrite w).copies.counters := by
      refine ⟨hlegal (hcounts hs), ?_, ?_⟩
      · rw [hwriter]
        nofun
      · rw [hwriter]
        exact (hcounts hs).2.2
    obtain ⟨hcopy, hcurrent, hqueue⟩ := tcounts hlanded
    obtain ⟨hbegun, hleft⟩ := Writer.mem_beginNext (w.waiters.foldl State.tell (u.landWrite w)).writer
    exact ⟨hcopy, fun x hx => (hbegun x hx).elim (hcurrent x) (hqueue x), fun x hx => hqueue x (hleft x hx)⟩
  · exact Writer.beginNext_distinct (tdistinct (by
      show (u.landWrite w).writer.Distinct
      rw [hwriter]
      exact hdistinct hs))

/-! ## Follow-ups, commands and the second -/

/-- What an event of the part keeps: its laws, its identity record, its vector and the bound of its control queue. -/
def State.Kept (s u : State) : Prop :=
  s.Booked u ∧ u.store.identity = s.store.identity ∧ u.vector = s.vector ∧ (s.QueueBounded → u.QueueBounded)

theorem State.Kept.refl (s : State) : s.Kept s := ⟨.refl s, rfl, rfl, id⟩

theorem State.Kept.trans {s t u : State} (h : s.Kept t) (g : t.Kept u) : s.Kept u := by
  obtain ⟨⟨h1, h2, h3, h4⟩, hi, hv, hq⟩ := h
  obtain ⟨⟨g1, g2, g3, g4⟩, gi, gv, gq⟩ := g
  exact ⟨⟨g1 ∘ h1, g2 ∘ h2, g3 ∘ h3, g4 ∘ h4⟩, gi.trans hi, gv.trans hv, gq ∘ hq⟩

/-- What the part is given at its making, and its control queue. -/
def State.given (s : State) : Identity × KnownAnswer × List Waiting := (s.store.identity, s.vector, s.queue)

theorem State.given_of_fixed {s u : State} (h : u.fixed = s.fixed) : u.given = s.given := by
  obtain ⟨hi, hv, -, -, -, hq, -⟩ := (State.fixed_eq_iff u s).mp h
  unfold State.given
  rw [hi, hv, hq]

theorem State.Booked.kept {s u : State} (h : s.Booked u) (hg : u.given = s.given) : s.Kept u := by
  simp only [State.given, Prod.mk.injEq] at hg
  obtain ⟨hi, hv, hq⟩ := hg
  refine ⟨h, hi, hv, fun hs => ?_⟩
  unfold State.QueueBounded
  rw [hq]
  exact hs

/-- An operation that leaves the `fixed` parts as they are keeps the identity record, the vector and the queue. -/
theorem State.Booked.keptFixed {s u : State} (h : s.Booked u) (hf : u.fixed = s.fixed) : s.Kept u :=
  h.kept (State.given_of_fixed hf)

/-! ### The power-up sequence changes nothing that the part is given -/

theorem State.lastStep_given (s : State) : s.lastStep.given = s.given := by
  have hopened : ∀ u : State, u.applyOpening.given = u.given := fun u => State.given_of_fixed u.applyOpening_fixed
  have hrestarted : s.startBackoff.given = s.given := State.given_of_fixed s.startBackoff_fixed
  unfold State.lastStep
  dsimp only
  (repeat' split)
  · exact (hopened _).trans hrestarted
  · exact hrestarted
  · exact hopened _
  · rfl

theorem State.powerUpDecision_given (s : State) : s.powerUpDecision.given = s.given := by
  have hwiping : s.enterWiping.resumeWipe.given = s.given :=
    State.given_of_fixed ((State.resumeWipe_fixed _).trans s.enterWiping_fixed)
  unfold State.powerUpDecision
  (repeat' split)
  · exact (State.lastStep_given _).trans (State.given_of_fixed (s.enterFault_fixed _))
  · exact (State.lastStep_given _).trans hwiping
  · exact (State.lastStep_given _).trans (State.given_of_fixed s.reachBlank_fixed)
  · exact State.given_of_fixed (s := { s with power := .absence }) (State.requestWrite_fixed _ _ _)

theorem State.testEnds_given (s : State) (b : Bool) : (s.testEnds b).given = s.given := by
  unfold State.testEnds
  (repeat' split)
  · exact s.powerUpDecision_given
  · exact (State.lastStep_given _).trans (State.given_of_fixed (s.enterFault_fixed _))
  · rfl
  · exact State.given_of_fixed (s.answerPlain_fixed _)
  · exact State.given_of_fixed (s.answerPlain_fixed _)
  · exact State.given_of_fixed s.selfTestFailed_fixed
  · rfl

theorem State.tell_given (s : State) (w : Waiter) : (s.tell w).given = s.given := by
  cases w with
  | channel => exact State.given_of_fixed s.channelTold_fixed
  | engine => exact State.given_of_fixed s.engineTold_fixed
  | sequence =>
    show s.sequenceTold.given = s.given
    unfold State.sequenceTold State.absenceTest
    (repeat' split)
    · rfl
    · rfl
    · exact (State.lastStep_given _).trans (State.given_of_fixed (s.triggerWipe_fixed _))
    · exact (State.lastStep_given _).trans (State.given_of_fixed s.enterLocked_fixed)
    all_goals rfl

theorem State.writeCompletes_given (s : State) (w : RecordWrite) : (s.writeCompletes w).given = s.given := by
  have htold : ∀ (ws : List Waiter) (u : State), (ws.foldl State.tell u).given = u.given := by
    intro ws
    induction ws with
    | nil => exact fun _ => rfl
    | cons x xs ih => exact fun u => (ih _).trans (u.tell_given x)
  exact (htold w.waiters _).trans (State.given_of_fixed (s.landWrite_fixed w))

theorem State.opening_given (s : State) : s.opening.given = s.given := by
  unfold State.opening
  dsimp only
  split
  · exact (State.given_of_fixed (State.applyOpening_fixed _)).trans rfl
  · rfl

/-! ### Notices, capsules and follow-ups -/

/-- A link reset empties the control queue (R123). -/
theorem State.linkResetSession_flushed (w : State) : w.flushChannel.linkResetSession.store.identity = w.store.identity ∧
    w.flushChannel.linkResetSession.vector = w.vector ∧ w.flushChannel.linkResetSession.queue = [] := by
  have hfixed : w.flushChannel.linkResetSession.fixed = w.flushChannel.fixed := State.linkResetSession_fixed _
  obtain ⟨hi, hv, -, -, -, hq, -⟩ := (State.fixed_eq_iff _ _).mp hfixed
  exact ⟨hi, hv, hq⟩

theorem State.resetLink_kept (s : State) : s.Kept s.resetLink := by
  obtain ⟨gi, gv, -⟩ := (State.fixed_eq_iff _ _).mp (State.orphanTable_fixed s)
  have hreset : ∀ w : State, w.store.identity = s.store.identity → w.vector = s.vector →
      s.Booked ((w.flushChannel.linkResetSession.clearLatch.forwardNotice .linkReset).acknowledge .linkReset .good) →
      s.Kept ((w.flushChannel.linkResetSession.clearLatch.forwardNotice .linkReset).acknowledge .linkReset .good) := by
    intro w wi wv hw
    obtain ⟨hi, hv, hq⟩ := w.linkResetSession_flushed
    refine ⟨hw, hi.trans wi, hv.trans wv, fun _ => ?_⟩
    show w.flushChannel.linkResetSession.queue.length ≤ 4
    rw [hq]
    exact Nat.zero_le _
  exact hreset s.orphanTable gi gv (State.Booked.refl s).resetLink

theorem State.takeNotice_kept (s : State) (n : Notice) : s.Kept (s.takeNotice n) := by
  have hwake : s.Kept s.wake := (State.Booked.refl s).wake.keptFixed s.wake_fixed
  cases n with
  | linkReset =>
    show s.Kept s.takeLinkReset
    unfold State.takeLinkReset
    split
    · exact hwake.trans (State.resetLink_kept _)
    · exact s.resetLink_kept
  | powerEnter =>
    show s.Kept s.takePowerEnter
    unfold State.takePowerEnter
    (repeat' split) <;> exact .refl s
  | powerExit =>
    show s.Kept s.takePowerExit
    unfold State.takePowerExit
    (repeat' split) <;> first | exact hwake | exact .refl s

theorem State.applyPowerEnter_kept (s : State) : s.Kept s.applyPowerEnter := by
  have hlocked : ({ s with heldPowerEnter := false } : State).lowPowerLockOn.fixed =
      ({ s with heldPowerEnter := false } : State).fixed := State.lowPowerLockOn_fixed _
  obtain ⟨hi, hv, -, -, -, hq, -⟩ := (State.fixed_eq_iff _ _).mp hlocked
  have hbooked := (State.Booked.refl s).applyPowerEnter
  unfold State.applyPowerEnter at hbooked ⊢
  dsimp only at hbooked ⊢
  split
  · exact .refl s
  · exact .refl s
  · refine ⟨State.Booked.lowPowerLockOn (u := { s with heldPowerEnter := false }) (.refl s), hi, hv, fun hs => ?_⟩
    show ({ s with heldPowerEnter := false } : State).lowPowerLockOn.queue.length ≤ 4
    rw [hq]
    exact hs

/-- A capsule is taken while a request keeps the service place or none waits, so that at most four then wait (R48, R120). -/
theorem State.takeCapsule_kept {s : State} (hplace : s.service.isSome = true ∨ s.queue = []) (c : Capsule) :
    s.Kept (s.takeCapsule c) := by
  have hjoined : ∀ t bytes, s.Kept (s.admitControl t bytes) := by
    intro t bytes
    unfold State.admitControl
    split
    · exact .refl s
    · split
      · exact .refl s
      · rename_i hroom
        refine ⟨.refl s, rfl, rfl, fun _ => ?_⟩
        show (s.queue ++ [_]).length ≤ 4
        rw [List.length_append, List.length_singleton]
        rcases hplace with hplace | hplace
        · exact Nat.lt_of_not_le fun hfour => hroom ⟨hplace, hfour⟩
        · rw [hplace]
          decide
  have hdata : ∀ t k, s.Kept (s.admitData t k c) := fun t k => ((State.Booked.refl s).admitData t k c).keptFixed (State.admitData_fixed s t k c)
  unfold State.takeCapsule State.takeTagged State.admitCapsule
  (repeat' split) <;> first | exact s.takeNotice_kept _ | exact hjoined _ _ | exact hdata _ _ | exact .refl s

theorem State.settleStep_kept {s t : State} (h : s.settleStep = some t) : s.Kept t := by
  obtain ⟨u, hu, hcases⟩ := State.settleStep_cases h
  have hdrawn : s.Kept u := by rcases hu with rfl | rfl <;> exact .refl _
  have hsame : u.service = s.service ∧ u.queue = s.queue := by rcases hu with rfl | rfl <;> exact ⟨rfl, rfl⟩
  rcases hcases with ⟨_, rfl⟩ | ⟨_, rfl⟩ | ⟨_, hserve⟩ | ⟨_, hplace, hlane⟩
  · exact hdrawn.trans ((State.Booked.refl u).proceed.keptFixed u.proceed_fixed)
  · exact hdrawn.trans u.applyPowerEnter_kept
  · unfold State.serveNext at hserve
    split at hserve
    · rename_i q qs _ hqueue
      obtain rfl := Option.some.inj hserve
      have hout : s.Kept { s with queue := qs } := ⟨State.Booked.refl s, rfl, rfl, fun hs => by
        show qs.length ≤ 4
        have : s.queue.length ≤ 4 := hs
        rw [hqueue, List.length_cons] at this
        omega⟩
      exact hout.trans (((State.Booked.refl _).enterService q).keptFixed (State.enterService_fixed _ q))
    · cases hserve
  · refine hdrawn.trans ?_
    rcases hlane with hdata | hhead
    · unfold State.takeData at hdata
      split at hdata
      · rename_i d ds _
        obtain rfl := Option.some.inj hdata
        have hout : u.Kept { u with dataLane := ds } := .refl u
        exact hout.trans (((State.Booked.refl _).takeSector d).keptFixed (State.takeSector_fixed _ d))
      · cases hdata
    · unfold State.takeHead at hhead
      split at hhead
      · rename_i c cs _
        split at hhead
        · cases hhead
        · obtain rfl := Option.some.inj hhead
          have hout : u.Kept { u with lane := cs } := .refl u
          refine hout.trans (State.takeCapsule_kept ?_ c)
          show u.service.isSome = true ∨ u.queue = []
          rw [hsame.1, hsame.2]
          unfold State.serveNext at hplace
          cases hservice : s.service with
          | some v => exact .inl rfl
          | none =>
            cases hqueue : s.queue with
            | nil => exact .inr rfl
            | cons q qs => simp [hservice, hqueue] at hplace
      · cases hhead

/-- An event keeps the laws, and leaves no follow-up to be made. -/
def State.KeptSettled (s u : State) : Prop := s.Kept u ∧ (s.Settled → u.Settled)

theorem State.KeptSettled.refl (s : State) : s.KeptSettled s := ⟨.refl s, id⟩

theorem State.KeptSettled.trans {s t u : State} (h : s.KeptSettled t) (g : t.KeptSettled u) : s.KeptSettled u :=
  ⟨h.1.trans g.1, g.2 ∘ h.2⟩

theorem State.follow_kept {s : State} {f : State → State} (hf : s.Kept (f s)) : s.KeptSettled (s.follow f) := by
  unfold State.follow
  split
  · exact .refl s
  · exact ⟨State.settle_keeps (P := s.Kept) (fun _ _ hs ht => hs.trans (State.settleStep_kept ht)) hf,
      fun _ => .inr (State.settle_settled _)⟩

theorem State.endHold_kept (s : State) : s.Kept s.endHold := by
  refine State.Booked.keptFixed ?_ s.endHold_fixed
  have h := State.Booked.refl s
  unfold State.endHold State.eraseLayout
  (repeat' split) <;> first | exact h.answerPlain _ | exact h.answer _ _ | exact h.writeLayout _ _ _ | exact h

theorem State.handedOut_kept (s : State) : s.KeptSettled s.handedOut := by
  unfold State.handedOut
  split
  · exact State.follow_kept s.endHold_kept
  · exact .refl s

theorem State.event_kept (s : State) {f : State → State} (hf : ∀ u : State, u.Kept (f u)) : s.KeptSettled (s.event f) :=
  s.handedOut_kept.trans (State.follow_kept (hf _))

/-! ### Power -/

theorem repairedCounters_legal {p : Policy} (h : p.legal = true) : (repairedCounters p).legal = true := by
  simp only [Policy.legal, Bool.and_eq_true, Bool.or_eq_true, decide_eq_true_eq] at h
  obtain ⟨⟨⟨⟨_, htries⟩, hlimit⟩, habsence⟩, -⟩ := h
  simp only [Counters.legal, Bool.and_eq_true, decide_eq_true_eq]
  unfold repairedCounters
  dsimp only
  constructor <;> split <;> omega

theorem Stored.read_legal {α : Type} {r : Stored α} {legal : α → Bool} {x : α} (h : r.read legal = some x) : legal x = true := by
  unfold Stored.read at h
  split at h
  · split at h
    · obtain rfl := Option.some.inj h
      assumption
    · cases h
  · cases h

theorem Stored.getD_legal {α : Type} (r : Stored α) {legal : α → Bool} {d : α} (hd : legal d = true) :
    legal ((r.read legal).getD d) = true := by
  cases h : r.read legal with
  | none => exact hd
  | some x => exact Stored.read_legal h

theorem scanPolicy_legal (st : Store) : (scanPolicy st).legal = true := Stored.getD_legal _ (by decide)

theorem scanCounters_legal (st : Store) : (scanCopies st).counters.legal = true :=
  Stored.getD_legal _ (repairedCounters_legal (scanPolicy_legal st))

theorem State.powerUp_kept (s : State) (level : Level) : s.Kept (s.powerUp level) := by
  rw [State.powerUp_eq]
  have hlegal := scanCounters_legal s.store
  refine ⟨⟨fun _ => .nil, fun _ => ⟨hlegal, ?_, ?_⟩, fun _ => ?_, fun _ => ?_⟩, rfl, rfl, fun _ => Nat.zero_le _⟩
  all_goals
    unfold repairs
    cases countersTorn s.store <;> cases wipeTorn s.store <;> simp [hlegal, Content.countsBounded, Writer.Distinct, Writer.Busy, State.books]

theorem State.storeAfterLoss_identity (s : State) (cut : WriteCut) : (s.storeAfterLoss cut).identity = s.store.identity := by
  unfold State.storeAfterLoss
  (repeat' split) <;> first | rfl | exact (Store.put_fields _ _).1 | exact (Store.tear_fields _ _).1

theorem State.losePower_kept (s : State) (cut : WriteCut) : s.Kept (s.losePower cut) :=
  ⟨⟨fun _ => .nil, fun _ => ⟨rfl, nofun, nofun⟩, fun _ => List.nodup_nil, fun _ _ => rfl⟩, s.storeAfterLoss_identity cut, rfl,
    fun _ => Nat.zero_le _⟩

/-- Before the power-up sequence's last step nothing follows. -/
theorem State.powerUp_settled (s : State) (level : Level) : (s.powerUp level).Settled :=
  .inr (State.Starting.settleStep (by
    rcases s.powerUp_keyKept level with h | h
    · exact h
    · exfalso
      have hp : (s.powerUp level).power = .running := by rcases h with ⟨⟨hp, _⟩, _⟩ | ⟨hp, _⟩ <;> exact hp
      rw [State.powerUp_eq] at hp
      have hphase : scanPhase s.store = .running := hp
      unfold scanPhase at hphase
      split at hphase <;> cases hphase))

/-! ### Commands -/

theorem exec_kept {c : Instr} {s u : State} (he : exec c s = .next u) : s.KeptSettled u := by
  have hb := fun w : State => State.Booked.refl w
  cases hc : c.capsule? with
  | some cap =>
    by_cases hl : c = .linkReset
    · subst hl
      obtain rfl := Host.Outcome.next.inj he
      exact State.follow_kept (.refl s)
    · rw [exec_offer hc hl] at he
      obtain rfl := Host.Outcome.next.inj he
      exact s.event_kept fun w => .refl w
  | none =>
    cases c <;> simp only [Instr.capsule?, reduceCtorEq] at hc <;> obtain rfl := Host.Outcome.next.inj he
    case writeDataSector => exact s.event_kept fun w => .refl w
    case readDataSector => exact s.event_kept fun w => ((hb w).takeReadSector _ _ _).keptFixed (State.takeReadSector_fixed _ _ _ _)
    case readSectorPassedUpstream => exact s.event_kept fun w => ((hb w).readSectorPasses _ _).keptFixed (State.readSectorPasses_fixed _ _ _)
    case zeroWriteSectorSent => exact s.event_kept fun w => ((hb w).zeroSectorGoes _ _).keptFixed (State.zeroSectorGoes_fixed _ _ _)
    case downstreamCompletion => exact s.event_kept fun w => ((hb w).takeCompletion _ _ _).keptFixed (State.takeCompletion_fixed _ _ _ _)
    case storeWriteCompletion =>
      refine s.event_kept fun w => ?_
      split
      · rename_i x hx
        exact ((hb w).writeCompletes hx).kept (w.writeCompletes_given x)
      · exact .refl w
    case backoffExpiry =>
      refine s.event_kept fun w => ?_
      split <;> exact .refl w
    case enclosureOpening =>
      refine s.event_kept fun w => ?_
      split
      · exact (hb w).opening.kept w.opening_given
      · exact .refl w
    case enclosureClosing => exact s.event_kept fun w => .refl w
    case powerGood level =>
      split
      · exact ⟨s.powerUp_kept level, fun _ => s.powerUp_settled level⟩
      · exact .refl s
    case selfTestEnd => exact s.event_kept fun w => ((hb w).testEnds _).kept (w.testEnds_given _)
    case powerLoss cut =>
      split
      · exact .refl s
      · exact ⟨s.losePower_kept cut, fun _ => .inl rfl⟩
    case writeSectorSentDownstream => exact s.event_kept fun w => ((hb w).writeSectorGoes _).keptFixed (State.writeSectorGoes_fixed _ _)

/-- Nothing can follow: no hold has ended, none can enter service, and the lanes do not take or hold nothing to take. -/
def State.Resting (s : State) : Prop :=
  s.channelReady = false ∧ (s.service ≠ none ∨ s.queue = []) ∧ s.powerEnterReady = false ∧
    (s.lanesTake = false ∨ (s.dataLane = [] ∧ ∀ c ∈ s.lane.head?, s.blocked c = true))

theorem State.serveNext_eq_none (s : State) : s.serveNext = none ↔ s.service ≠ none ∨ s.queue = [] := by
  unfold State.serveNext
  cases s.service <;> cases s.queue <;> simp

theorem State.takeData_eq_none (s : State) : s.takeData = none ↔ s.dataLane = [] := by
  unfold State.takeData
  cases s.dataLane <;> simp

theorem State.takeHead_eq_none (s : State) : s.takeHead = none ↔ ∀ c ∈ s.lane.head?, s.blocked c = true := by
  unfold State.takeHead
  cases s.lane with
  | nil => simp
  | cons c cs => cases s.blocked c <;> simp

theorem State.takeFromLanes_eq_none (s : State) : s.takeFromLanes = none ↔
    s.lanesTake = false ∨ (s.dataLane = [] ∧ ∀ c ∈ s.lane.head?, s.blocked c = true) := by
  rw [← s.takeData_eq_none, ← s.takeHead_eq_none]
  have hdata : s.drawn.takeData = none ↔ s.takeData = none := by
    rw [State.takeData_eq_none, State.takeData_eq_none]
    exact Iff.rfl
  have hhead : s.drawn.takeHead = none ↔ s.takeHead = none := by
    rw [State.takeHead_eq_none, State.takeHead_eq_none]
    exact Iff.rfl
  unfold State.takeFromLanes State.bothLanes
  cases s.lanesTake with
  | false => simp
  | true =>
    cases hd : s.takeData with
    | none => cases hh : s.takeHead <;> simp
    | some a =>
      rw [hd] at hdata
      cases hh : s.takeHead with
      | none => simp
      | some b =>
        rw [hh] at hhead
        cases Config.dataLaneFirst s.draws <;> simp [hdata, hhead]

theorem State.settleStep_eq_none (s : State) : s.settleStep = none ↔ s.Resting := by
  unfold State.Resting
  rw [← s.serveNext_eq_none, ← s.takeFromLanes_eq_none]
  unfold State.settleStep State.enterIfReady
  cases s.channelReady with
  | true => cases s.powerEnterReady <;> cases Config.powerEnterFirst s.draws <;> simp
  | false =>
    cases s.serveNext with
    | some t => simp
    | none => cases s.powerEnterReady <;> simp

theorem State.Settled.congr {s u : State} (hp : u.power = s.power) (hr : s.Resting → u.Resting) (h : s.Settled) : u.Settled :=
  h.imp (fun hs => hp.trans hs) fun hs => (State.settleStep_eq_none u).2 (hr ((State.settleStep_eq_none s).1 hs))

theorem State.second_kept (s : State) : s.KeptSettled s.second := by
  refine s.handedOut_kept.trans ?_
  have hcounted : ∀ u : State, u.KeptSettled u.countsDown := by
    intro u
    unfold State.countsDown
    (repeat' split) <;> exact ⟨.refl u, State.Settled.congr rfl id⟩
  exact hcounted _

end Sys2Proof.Machine

/-- Settles O58: a step is a command's event or a second, and every event is a chain of operations that keep the laws. -/
theorem stepKeepsItsLaws : Obligations.StepKeepsItsLaws := by
  unfold Obligations.StepKeepsItsLaws
  intro s u hstep
  have hkept : s.KeptSettled u := by
    unfold step at hstep
    split at hstep
    · obtain rfl := Host.Outcome.next.inj hstep
      exact s.second_kept
    · rename_i c cs _
      have hpending : s.KeptSettled { s with pending := cs } := ⟨.refl s, State.Settled.congr rfl id⟩
      exact hpending.trans (exec_kept hstep)
  obtain ⟨⟨⟨hsorted, hcounts, hdistinct, hbusy⟩, hidentity, hvector, hqueue⟩, hsettled⟩ := hkept
  exact ⟨hsorted, hqueue, hcounts, fun hw => ⟨hdistinct hw.1, hbusy hw.2⟩, hsettled, hidentity, hvector⟩
end

section
/-! Proofs/WipeCourse.lean: the course of a wipe from its record's write on: the record rewrites in their order, the start of the
sanitize, and the finish (R148 to R150, R153, R154). -/

open Sys2Proof Sys2Proof.Machine

namespace Sys2Proof.Machine

/-! ## A write that the Wipe Engine awaits (R87, R89) -/

/-- A record and its working copy have taken a content (R87). -/
def State.withContent (s : State) : Content → State
  | .credential i x => s.withCredential i x
  | .layout l => s.withLayout l
  | .policy p => s.withPolicy p
  | .counters n => s.withCounters n
  | .wipe x => { s with store := { s.store with wipe := .intact x }, copies := { s.copies with wipe := x } }

theorem State.landWrite_withContent {s : State} (hawake : s.access ≠ .dormant) (c : Content) (ws : List Waiter) :
    s.landWrite ⟨c, ws⟩ = { s.withContent c with writer := ⟨none, s.writer.queue⟩ } := by
  refine State.landWrite_eq hawake ?_ ws
  cases c with
  | credential i x => exact .inl ⟨i, x, rfl, rfl⟩
  | layout l => exact .inr (.inl ⟨l, rfl, rfl⟩)
  | policy p => exact .inr (.inr (.inl ⟨p, rfl, rfl⟩))
  | counters n => exact .inr (.inr (.inr (.inl ⟨n, rfl, rfl⟩)))
  | wipe x => exact .inr (.inr (.inr (.inr ⟨x, rfl, rfl⟩)))

/-- The state when the write that the Wipe Engine awaits has landed, before the engine is told. -/
def State.landed (s : State) (c : Content) : State := { s.withContent c with writer := ⟨none, []⟩ }

theorem exec_engineWrite {s v : State} {c : Content} (hcalm : s.Calm) (hawake : s.access ≠ .dormant)
    (hwriter : s.writer = ⟨some ⟨c, [.engine]⟩, []⟩) (hv : (s.landed c).engineTold = v) (hvcalm : v.Calm) (hon : v.writerOn = v) :
    exec .storeWriteCompletion s = .next v := by
  have hpower : s.power ≠ .off := by rw [hcalm.power]; decide
  refine congrArg Host.Outcome.next ((State.event_of_owes (State.owesAnswer_of_service hcalm.service) hpower _).trans ?_)
  rw [hwriter]
  show ((s.landWrite ⟨c, [.engine]⟩).engineTold.writerOn).settle = v
  rw [State.landWrite_withContent hawake, hwriter]
  show ((s.landed c).engineTold.writerOn).settle = v
  rw [hv, hon]
  exact State.settle_calm hvcalm

/-- The Wipe Engine awaits a record write in a stage, with nothing queued behind it. -/
def State.engineAt (s : State) (j : WipeJob) (g : WipeStage) (c : Content) : State :=
  { s with engine := ⟨some { j with stage := g }, s.engine.sanitize⟩, writer := ⟨some ⟨c, [.engine]⟩, []⟩ }

theorem State.engineAt_self {s : State} {j : WipeJob} {c : Content} (hj : s.engine.job = some j)
    (hwriter : s.writer = ⟨some ⟨c, [.engine]⟩, []⟩) : s.engineAt j j.stage c = s := by
  have hengine : s.engine = ⟨some { j with stage := j.stage }, s.engine.sanitize⟩ := by rw [← hj]
  unfold State.engineAt
  rw [← hengine, ← hwriter]

/-- The Wipe Engine in a stage, the writer idle. -/
def State.engineIdle (s : State) (j : WipeJob) (g : WipeStage) : State :=
  { s with engine := ⟨some { j with stage := g }, s.engine.sanitize⟩, writer := ⟨none, []⟩ }

theorem State.landed_engineAt (s : State) (j : WipeJob) (g : WipeStage) (c d : Content) :
    (s.engineAt j g d).landed c = (s.withContent c).engineIdle j g := by
  cases c <;> rfl

/-- A wiping part whose record writes nothing disturbs. -/
def State.Quieted (s : State) : Prop := s.Calm ∧ s.access = .wiping

theorem State.Quieted.withContent {s : State} (h : s.Quieted) (c : Content) : (s.withContent c).Quieted := by
  cases c <;> exact h

theorem State.Quieted.counted {s : State} (h : s.Quieted) : (s.withCounters Counters.zero).Quieted := h

theorem State.Quieted.owned {s : State} (h : s.Quieted) (c : Credential) : (s.withCredential 0 c).Quieted := h

theorem State.Quieted.emptied {s : State} (h : s.Quieted) (i : SlotIndex) : (s.withCredential i Credential.empty).Quieted := h

theorem State.Quieted.awake {s : State} (h : s.Quieted) : s.access ≠ .dormant := by
  rw [h.2]
  decide

/-- A step of the wipe from one awaited write to the next: what the engine does when told. -/
theorem exec_engineAt {s w : State} (h : s.Quieted) {j : WipeJob} {g g' : WipeStage} {c c' : Content} (hw : w.Quieted)
    (htold : ((s.withContent c).engineIdle j g).engineTold = w.engineAt j g' c') :
    exec .storeWriteCompletion (s.engineAt j g c) = .next (w.engineAt j g' c') := by
  refine exec_engineWrite h.1 h.awake rfl ?_ hw.1 (State.writerOn_busy rfl)
  rw [State.landed_engineAt]
  exact htold

theorem State.engineWrite_engineIdle (s : State) (j : WipeJob) (g g' : WipeStage) (c : Content) :
    (s.engineIdle j g).engineWrite { j with stage := g } g' c = s.engineAt j g' c := by
  rw [State.engineWrite_idle rfl]
  rfl

section
variable (s : State) (j : WipeJob)

theorem State.engineTold_purgeWrite :
    (s.engineIdle j .purgeWrite).engineTold = s.engineAt j .layoutWrite (.layout (j.layout s.copies.layout)) :=
  s.engineWrite_engineIdle j .purgeWrite _ _

theorem State.engineTold_layoutWrite_kept (hkeep : j.keepOwner = true) : (s.engineIdle j .layoutWrite).engineTold =
    s.engineAt j .ownerWrite (.credential 0 (keptOwner s.copies.credentials[(0 : SlotIndex)])) :=
  (if_pos hkeep).trans (s.engineWrite_engineIdle j .layoutWrite _ _)

theorem State.engineTold_layoutWrite_fresh (hkeep : j.keepOwner = false) : (s.engineIdle j .layoutWrite).engineTold =
    s.drawn.engineAt j .ownerWrite (.credential 0 s.newBlankSlot) :=
  (if_neg (by rw [hkeep]; decide)).trans (s.drawn.engineWrite_engineIdle j .layoutWrite _ _)

theorem State.engineTold_ownerWrite_kept (hkeep : j.keepOwner = true) : (s.engineIdle j .ownerWrite).engineTold =
    s.engineAt j (.userWrite 1) (.credential 1 Credential.empty) :=
  (if_pos hkeep).trans (s.engineWrite_engineIdle j .ownerWrite _ _)

theorem State.engineTold_ownerWrite_fresh (hkeep : j.keepOwner = false) : (s.engineIdle j .ownerWrite).engineTold =
    s.engineAt j .policyWrite (.policy Policy.defaults) :=
  (if_neg (by rw [hkeep]; decide)).trans (s.engineWrite_engineIdle j .ownerWrite _ _)

theorem State.engineTold_policyWrite :
    (s.engineIdle j .policyWrite).engineTold = s.engineAt j (.userWrite 1) (.credential 1 Credential.empty) :=
  s.engineWrite_engineIdle j .policyWrite _ _

theorem State.engineTold_userWrite (i : SlotIndex) (h : i.val + 1 < 8) : (s.engineIdle j (.userWrite i)).engineTold =
    s.engineAt j (.userWrite ⟨i.val + 1, h⟩) (.credential ⟨i.val + 1, h⟩ Credential.empty) :=
  (dif_pos h).trans (s.engineWrite_engineIdle j (.userWrite i) _ _)

theorem State.engineTold_lastUser :
    (s.engineIdle j (.userWrite 7)).engineTold = s.engineAt j .countersWrite (.counters Counters.zero) :=
  s.engineWrite_engineIdle j (.userWrite 7) _ _

theorem State.engineTold_countersWrite (hdepth : j.depth ≠ .keys) :
    (s.engineIdle j .countersWrite).engineTold = s.engineAt j .sanitizeWrite (.wipe (j.sanitizeRecord 0)) :=
  (if_neg hdepth).trans (s.engineWrite_engineIdle j .countersWrite _ _)

theorem State.engineTold_finish_kept (hdepth : j.depth = .keys) (hkeep : j.keepOwner = true) (hawake : s.access ≠ .dormant) :
    (s.engineIdle j .countersWrite).engineTold = s.engineAt j .finishNone (.wipe j.doneRecord) :=
  (if_pos hdepth).trans ((if_neg (by exact hawake)).trans ((if_pos hkeep).trans
    (s.engineWrite_engineIdle j .countersWrite _ _)))

theorem State.engineTold_finish_fresh (hdepth : j.depth = .keys) (hkeep : j.keepOwner = false) (hawake : s.access ≠ .dormant) :
    (s.engineIdle j .countersWrite).engineTold = s.drawn.engineAt j .finishOwner (.credential 0 s.newBlankSlot) :=
  (if_pos hdepth).trans ((if_neg (by exact hawake)).trans ((if_neg (by rw [hkeep]; decide)).trans
    (s.drawn.engineWrite_engineIdle j .countersWrite _ _)))

theorem State.engineTold_finishOwner :
    (s.engineIdle j .finishOwner).engineTold = s.engineAt j .finishNone (.wipe j.doneRecord) :=
  s.engineWrite_engineIdle j .finishOwner _ _

end

/-! ## Courses of awaited writes -/

/-- From `a` the Wipe Engine has the records of a list written one after another in WIPING, each begun as the one before it
completes; at the last one's completion the part is in `b`. -/
def State.Course : State → List Content → State → Prop
  | a, [], b => a = b
  | a, c :: ws, b => (a.access = .wiping ∧ a.writer = ⟨some ⟨c, [.engine]⟩, []⟩) ∧
      ∃ m, exec .storeWriteCompletion a = .next m ∧ m.Course ws b

theorem State.Course.append {a m b : State} {ws vs : List Content} (h : a.Course ws m) (g : m.Course vs b) :
    a.Course (ws ++ vs) b := by
  induction ws generalizing a with
  | nil => exact (show a = m from h) ▸ g
  | cons c ws ih =>
    obtain ⟨hc, n, hn, h⟩ := h
    exact ⟨hc, n, hn, ih h⟩

theorem State.Course.runs {a b : State} {ws : List Content} (h : a.Course ws b) :
    runs a (List.replicate ws.length .storeWriteCompletion) = .next b := by
  induction ws generalizing a with
  | nil => exact congrArg Host.Outcome.next h
  | cons c ws ih =>
    obtain ⟨_, n, hn, h⟩ := h
    rw [List.length_cons, List.replicate_succ, Sys2Proof.Machine.runs, hn]
    exact ih h

theorem State.Course.during {a b : State} {ws : List Content} (h : a.Course ws b) (k : Nat) (hk : k < ws.length) :
    ∃ m, Sys2Proof.Machine.runs a (List.replicate k .storeWriteCompletion) = .next m ∧ m.access = .wiping ∧
      m.writer = ⟨some ⟨ws[k], [.engine]⟩, []⟩ := by
  induction ws generalizing a k with
  | nil => exact absurd hk (Nat.not_lt_zero _)
  | cons c ws ih =>
    obtain ⟨hc, n, hn, h⟩ := h
    cases k with
    | zero => exact ⟨a, rfl, hc⟩
    | succ k =>
      obtain ⟨m, hm, hrest⟩ := ih h k (Nat.lt_of_succ_lt_succ hk)
      refine ⟨m, ?_, hrest⟩
      rw [List.replicate_succ, Sys2Proof.Machine.runs, hn]
      exact hm

/-- One step of a course. -/
theorem State.Course.step {s w b : State} (h : s.Quieted) {j : WipeJob} {g g' : WipeStage} {c c' : Content} {ws : List Content}
    (hw : w.Quieted) (htold : ((s.withContent c).engineIdle j g).engineTold = w.engineAt j g' c')
    (hrest : (w.engineAt j g' c').Course ws b) : (s.engineAt j g c).Course (c :: ws) b :=
  ⟨⟨h.2, rfl⟩, _, exec_engineAt h hw htold, hrest⟩

/-! ## The user records (R148) -/

/-- The user records that a wipe empties, in slot order. -/
def emptiedSlots : List SlotIndex := [1, 2, 3, 4, 5, 6, 7]

/-- Every user record has been written EMPTY (R148). -/
def State.usersEmptied (s : State) : State := emptiedSlots.foldl (fun u i => u.withCredential i Credential.empty) s

theorem foldl_withCredential (is : List SlotIndex) (c : Credential) (s : State) :
    is.foldl (fun u i => u.withCredential i c) s = { s with
      store := { s.store with credentials := is.foldl (fun v (i : SlotIndex) => v.set i (.intact c)) s.store.credentials }
      copies := { s.copies with credentials := is.foldl (fun v (i : SlotIndex) => v.set i ⟨some c, false⟩) s.copies.credentials } } := by
  induction is generalizing s with
  | nil => rfl
  | cons i is ih =>
    rw [List.foldl_cons, ih]
    rfl

theorem get_foldl_set {α : Type} {n : Nat} (is : List (Fin n)) (x : α) (v : Vector α n) (i : Fin n) :
    (is.foldl (fun v i => v.set i x) v)[i] = if i ∈ is then x else v[i] := by
  induction is generalizing v with
  | nil => simp
  | cons k is ih =>
    rw [List.foldl_cons, ih, vector_get_set]
    by_cases hi : i ∈ is
    · simp [hi]
    · by_cases hk : k = i
      · simp [hk]
      · have hk' : i ≠ k := fun h => hk h.symm
        simp [hi, hk, hk']

theorem mem_emptiedSlots {i : SlotIndex} : i ∈ emptiedSlots ↔ i ≠ 0 := by
  revert i
  decide

/-- Slot 0's record written and every user record EMPTY (R148). -/
@[irreducible] def emptiedRecords (v : Vector (Stored Credential) 8) (c : Credential) : Vector (Stored Credential) 8 :=
  emptiedSlots.foldl (fun v (i : SlotIndex) => v.set i (.intact Credential.empty)) (v.set (0 : SlotIndex) (.intact c))

/-- The working copies of such records. -/
@[irreducible] def emptiedCopies (v : Vector CredentialCopy 8) (c : Credential) : Vector CredentialCopy 8 :=
  emptiedSlots.foldl (fun v (i : SlotIndex) => v.set i ⟨some Credential.empty, false⟩) (v.set (0 : SlotIndex) ⟨some c, false⟩)

theorem get_emptiedRecords (v : Vector (Stored Credential) 8) (c : Credential) (i : SlotIndex) :
    (emptiedRecords v c)[i] = if i = 0 then .intact c else .intact Credential.empty := by
  unfold emptiedRecords
  rw [get_foldl_set, vector_get_set]
  by_cases hi : i = 0
  · rw [if_neg (fun h => mem_emptiedSlots.1 h hi), if_pos hi.symm, if_pos hi]
  · rw [if_pos (mem_emptiedSlots.2 hi), if_neg hi]

theorem get_emptiedCopies (v : Vector CredentialCopy 8) (c : Credential) (i : SlotIndex) :
    (emptiedCopies v c)[i] = if i = 0 then ⟨some c, false⟩ else ⟨some Credential.empty, false⟩ := by
  unfold emptiedCopies
  rw [get_foldl_set, vector_get_set]
  by_cases hi : i = 0
  · rw [if_neg (fun h => mem_emptiedSlots.1 h hi), if_pos hi.symm, if_pos hi]
  · rw [if_pos (mem_emptiedSlots.2 hi), if_neg hi]

/-- The user records are written EMPTY one after another, and then the counts (R148). -/
theorem State.course_users {s : State} (h : s.Quieted) (j : WipeJob) :
    (s.engineAt j (.userWrite 1) (.credential 1 Credential.empty)).Course
      (emptiedSlots.map fun i => .credential i Credential.empty)
      (s.usersEmptied.engineAt j .countersWrite (.counters Counters.zero)) := by
  have hnext : ∀ {u b : State} {ws : List Content} (i : SlotIndex) (hi : i.val + 1 < 8), u.Quieted →
      (((u.withCredential i Credential.empty).engineAt j (.userWrite ⟨i.val + 1, hi⟩)
        (.credential ⟨i.val + 1, hi⟩ Credential.empty)).Course ws b) →
      (u.engineAt j (.userWrite i) (.credential i Credential.empty)).Course (.credential i Credential.empty :: ws) b :=
    fun i hi hu hrest => State.Course.step hu (hu.withContent (.credential i _)) (State.engineTold_userWrite _ j i hi) hrest
  have h1 := h.emptied 1
  have h2 := h1.emptied 2
  have h3 := h2.emptied 3
  have h4 := h3.emptied 4
  have h5 := h4.emptied 5
  have h6 := h5.emptied 6
  exact hnext 1 (by decide) h (hnext 2 (by decide) h1 (hnext 3 (by decide) h2 (hnext 4 (by decide) h3 (hnext 5 (by decide) h4
    (hnext 6 (by decide) h5 (State.Course.step h6 (h6.emptied 7) (State.engineTold_lastUser _ j) rfl))))))

/-! ## The record rewrites (R148) -/

/-- The wipe record and the layout have been written. -/
def State.recordLaid (s : State) (j : WipeJob) (l : Layout) : State := (s.withContent (.wipe j.purgeRecord)).withLayout l

/-- The records as a wipe that keeps the owner leaves them before the counts are written (R148). -/
def State.rewrittenKept (s : State) (j : WipeJob) (l : Layout) (owner : Credential) : State :=
  { s with
    store := { s.store with
      wipe := .intact j.purgeRecord, layout := .intact l, credentials := emptiedRecords s.store.credentials owner }
    copies := { s.copies with
      wipe := j.purgeRecord, layout := l, credentials := emptiedCopies s.copies.credentials owner } }

/-- The records as a wipe that does not keep the owner leaves them before the counts are written (R148). -/
def State.rewrittenFresh (s : State) (j : WipeJob) (l : Layout) (owner : Credential) : State :=
  (s.rewrittenKept j l owner).drawn.withPolicy Policy.defaults

/-- The writes of the user records. -/
def emptiedWrites : List Content := emptiedSlots.map fun i => .credential i Credential.empty

section
variable {s : State} {j : WipeJob} {l : Layout} {owner : Credential}

theorem State.usersEmptied_kept (h : s.Quieted) :
    ((s.recordLaid j l).withCredential 0 owner).usersEmptied = s.rewrittenKept j l owner := by
  have hview : (if s.access = .locked then some l.imageView else s.view) = s.view := if_neg (by rw [h.2]; decide)
  unfold State.usersEmptied State.recordLaid State.withContent State.withLayout
  dsimp only
  rw [hview, foldl_withCredential]
  unfold State.rewrittenKept emptiedRecords emptiedCopies
  rfl

theorem State.usersEmptied_fresh (h : s.Quieted) :
    (((s.recordLaid j l).drawn.withCredential 0 owner).withPolicy Policy.defaults).usersEmptied = s.rewrittenFresh j l owner := by
  have hview : (if s.access = .locked then some l.imageView else s.view) = s.view := if_neg (by rw [h.2]; decide)
  unfold State.usersEmptied State.recordLaid State.withContent State.withLayout
  dsimp only
  rw [hview, foldl_withCredential]
  unfold State.rewrittenFresh State.rewrittenKept emptiedRecords emptiedCopies
  rfl

theorem State.Quieted.rewrittenKept (h : s.Quieted) : (s.rewrittenKept j l owner).Quieted := h

theorem State.Quieted.drawn (h : s.Quieted) : s.drawn.Quieted := h

theorem State.Quieted.rewrittenFresh (h : s.Quieted) : (s.rewrittenFresh j l owner).Quieted :=
  h.rewrittenKept.drawn.withContent (.policy Policy.defaults)

theorem State.course_kept (h : s.Quieted) (hkeep : j.keepOwner = true) (hl : j.layout s.copies.layout = l)
    (howner : keptOwner s.copies.credentials[(0 : SlotIndex)] = owner) :
    (s.engineAt j .purgeWrite (.wipe j.purgeRecord)).Course
      (.wipe j.purgeRecord :: .layout l :: .credential 0 owner :: emptiedWrites)
      ((s.rewrittenKept j l owner).engineAt j .countersWrite (.counters Counters.zero)) := by
  subst hl howner
  rw [← State.usersEmptied_kept h]
  have hrecorded := h.withContent (.wipe j.purgeRecord)
  have hlaid := hrecorded.withContent (.layout (j.layout s.copies.layout))
  have howned := hlaid.withContent (.credential 0 (keptOwner s.copies.credentials[(0 : SlotIndex)]))
  refine State.Course.step h hrecorded (State.engineTold_purgeWrite _ j) ?_
  refine State.Course.step hrecorded hlaid (State.engineTold_layoutWrite_kept _ j hkeep) ?_
  exact State.Course.step hlaid howned (State.engineTold_ownerWrite_kept _ j hkeep) (State.course_users howned j)

theorem State.course_fresh (h : s.Quieted) (hkeep : j.keepOwner = false) (hl : j.layout s.copies.layout = l)
    (howner : owner = .blank (wrapKey s.store.identity.deviceKey 0 l[(0 : RangeIndex)].generation (Config.freshKey s.draws))) :
    (s.engineAt j .purgeWrite (.wipe j.purgeRecord)).Course
      (.wipe j.purgeRecord :: .layout l :: .credential 0 owner :: .policy Policy.defaults :: emptiedWrites)
      ((s.rewrittenFresh j l owner).engineAt j .countersWrite (.counters Counters.zero)) := by
  subst hl howner
  rw [← State.usersEmptied_fresh h]
  have hrecorded := h.withContent (.wipe j.purgeRecord)
  have hlaid : (s.recordLaid j (j.layout s.copies.layout)).drawn.Quieted := h
  have howned := hlaid.withContent (.credential 0 (s.recordLaid j (j.layout s.copies.layout)).newBlankSlot)
  have hpolicy := howned.withContent (.policy Policy.defaults)
  refine State.Course.step h hrecorded (State.engineTold_purgeWrite _ j) ?_
  refine State.Course.step hrecorded hlaid (State.engineTold_layoutWrite_fresh _ j hkeep) ?_
  refine State.Course.step hlaid howned (State.engineTold_ownerWrite_fresh _ j hkeep) ?_
  exact State.Course.step howned hpolicy (State.engineTold_policyWrite _ j) (State.course_users hpolicy j)

end

/-! ## The finish (R150) -/

/-- The record of phase NONE has been written and the wipe is no longer in progress (R150). -/
def State.wipeEnded (s : State) (x : WipeRecord) : State :=
  { s with
    store := { s.store with wipe := .intact x }, copies := { s.copies with wipe := x }, engine := ⟨none, none⟩
    writer := ⟨none, []⟩, notices := { s.notices with wipeDone := true }, pendingView := none }

section
variable {s : State} {j : WipeJob} {x : WipeRecord} (h : s.Quieted) (hj : s.engine.job = some j) (hstage : j.stage = .finishNone)
  (hwriter : s.writer = ⟨some ⟨.wipe x, [.engine]⟩, []⟩)
include h hj hstage hwriter

theorem exec_wipeEnds {v : State} (hv : (s.landed (.wipe x)).endWipe j = v) (hcalm : v.Calm) (hidle : v.writer = ⟨none, []⟩) :
    exec .storeWriteCompletion s = .next v := by
  refine exec_engineWrite h.1 h.awake hwriter ?_ hcalm (State.writerOn_idle hidle)
  rw [← hv]
  have hjob : (s.landed (.wipe x)).engine.job = some j := hj
  unfold State.engineTold
  rw [hjob]
  dsimp only
  rw [hstage]

theorem exec_wipeEnds_fault (hfault : j.fromSelfTestFault = true) : exec .storeWriteCompletion s = .next { s.wipeEnded x with
    access := .fault, faultCause := some .selfTest, view := some View.empty, latch := false } := by
  refine exec_wipeEnds h hj hstage hwriter ?_ h.1 rfl
  unfold State.endWipe
  dsimp only
  rw [if_pos hfault]
  unfold State.enterFault
  rw [State.enter_leaves (by exact h.awake) (by decide)]
  rfl

theorem exec_wipeEnds_kept (hfault : j.fromSelfTestFault = false) (hkeep : j.keepOwner = true) :
    exec .storeWriteCompletion s = .next { s.wipeEnded x with access := .locked, view := some s.copies.layout.imageView } := by
  refine exec_wipeEnds h hj hstage hwriter ?_ h.1 rfl
  have hlatch : (s.latch && decide (Access.locked = .locked)) = s.latch := Bool.and_true _
  unfold State.endWipe
  dsimp only
  rw [if_neg (by rw [hfault]; decide), if_pos hkeep]
  unfold State.enterLocked State.enter
  rw [if_neg (by exact h.awake)]
  show ({ s.wipeEnded x with
    access := .locked, view := some s.copies.layout.imageView, latch := s.latch && decide (Access.locked = .locked) } : State) = _
  rw [hlatch]
  rfl

theorem exec_wipeEnds_fresh {c : Credential} {w : Wrap} {key : Key} (hfault : j.fromSelfTestFault = false)
    (hkeep : j.keepOwner = false) (hrecord : s.copies.credentials[(0 : SlotIndex)].record = some c) (hwraps : c.wraps = [w])
    (hkey : unwrapKey s.store.identity.deviceKey w = some key) :
    exec .storeWriteCompletion s = .next { s.wipeEnded x with
      access := .blank, view := some (View.full s.capacity), latch := false
      slots := s.slots.set 0 ⟨.loaded, some key, some s.copies.layout[(0 : RangeIndex)].generation, 0⟩
      locks := s.locks.set 0 ⟨false, false⟩ } := by
  refine exec_wipeEnds h hj hstage hwriter ?_ h.1 rfl
  have hglobal : s.deviceGlobalKey = some key := by
    unfold State.deviceGlobalKey
    rw [hrecord, Option.bind_some, hwraps]
    exact hkey
  unfold State.endWipe
  dsimp only
  rw [if_neg (by rw [hfault]; decide), if_neg (by rw [hkeep]; decide)]
  unfold State.reachBlank
  rw [show State.deviceGlobalKey (State.notify { s.landed (.wipe x) with engine := ⟨none, none⟩ } .wipeDone) = some key from hglobal]
  dsimp only
  unfold State.enterBlank
  rw [State.enter_leaves (by exact h.awake) (by decide)]
  rfl

end

/-! ## The start of the sanitize with an excluded range that lies ahead (R153, R154) -/

/-- The first steps, of an excluded range that begins behind them all (R153, R154). -/
theorem State.issueStep_ahead {s : State} {j : WipeJob} {k : Nat} (hx : ∀ e ∈ s.excluded j, 4096 < e.start)
    (hroom : 4096 ≤ s.capacity) (hk : k < 4) :
    State.issueStep { j with stage := .sanitizing } (s.stepsSent j 0 k) (64 + k) = s.stepsSent j 0 (k + 1) := by
  have hexcluded : (s.stepsSent j 0 k).excluded { j with stage := .sanitizing } = s.excluded j := rfl
  have hcapacity : (s.stepsSent j 0 k).capacity = s.capacity := rfl
  have hlength : stepLength s.capacity (s.excluded j) (0 + 1024 * k) = 1024 := by
    unfold stepLength
    dsimp only
    cases he : s.excluded j with
    | none => dsimp only; omega
    | some e =>
      have := hx e he
      dsimp only
      rw [if_pos (by omega)]
      omega
  have hjump : jumpOver (s.excluded j) (0 + 1024 * k + 1024) = 1024 * k + 1024 := by
    unfold jumpOver
    cases he : s.excluded j with
    | none => dsimp only; omega
    | some e =>
      have := hx e he
      dsimp only
      rw [if_neg (by omega)]
      omega
  unfold State.issueStep
  rw [hexcluded, hcapacity]
  simp only [State.stepsSent]
  rw [if_pos (by omega), hlength, hjump]
  have hcases : k = 0 ∨ k = 1 ∨ k = 2 ∨ k = 3 := by omega
  rcases hcases with rfl | rfl | rfl | rfl <;> simp [firstSteps, State.sendStep, State.sendDown, insertNat]

theorem State.startSanitize_ahead {s : State} {j : WipeJob} (hawake : s.access ≠ .dormant)
    (hx : ∀ e ∈ s.excluded j, 4096 < e.start) (hroom : 4096 ≤ s.capacity) (hout : s.outstanding = []) :
    s.startSanitize j 0 = s.stepsSent j 0 4 := by
  have hsent := fun k (hk : k < 4) => State.issueStep_ahead (s := s) hx hroom hk
  have hjump : jumpOver (s.excluded j) 0 = 0 := by
    unfold jumpOver
    cases he : s.excluded j with
    | none => rfl
    | some e =>
      have := hx e he
      dsimp only
      rw [if_neg (by omega)]
  have hfirst : ({ s with engine := ⟨some { j with stage := .sanitizing }, some ⟨0, [], 0⟩⟩ } : State) = s.stepsSent j 0 0 := by
    simp [State.stepsSent, ← hout]
  have hfrontier : (s.stepsSent j 0 4).advanceFrontier { j with stage := .sanitizing } = s.stepsSent j 0 4 :=
    State.advanceFrontier_stays (z := ⟨0 + 1024 * 4, firstSteps 0, 0⟩) rfl (by decide) _
  unfold State.startSanitize
  rw [if_neg hawake]
  dsimp only
  rw [hjump]
  unfold sanitizeSubTags
  simp only [List.foldl_cons, List.foldl_nil]
  rw [hfirst, hsent 0 (by omega), hsent 1 (by omega), hsent 2 (by omega), hsent 3 (by omega)]
  unfold State.settleSanitize
  rw [hfrontier]
  exact State.endSanitizeIfDone_not (z := ⟨0 + 1024 * 4, firstSteps 0, 0⟩) rfl (by decide) _

/-- The IMAGE extent of a layout is that of one of its IMAGE ranges (R153). -/
theorem Layout.imageExtent_some {l : Layout} {e : Extent} (h : l.imageExtent = some e) :
    ∃ (q : RangeIndex) (n : Nat), l[q].image = true ∧ l[q].extent = some (e.start, n) := by
  unfold Layout.imageExtent at h
  obtain ⟨q, _, hq⟩ := List.exists_of_findSome?_eq_some h
  split at hq
  · rename_i himage
    obtain ⟨x, hx, rfl⟩ := Option.map_eq_some_iff.1 hq
    exact ⟨q, x.2, (Bool.and_eq_true_iff.1 himage).2, hx⟩
  · cases hq

/-! ## From the counts on (R149, R150) -/

section
variable {s : State} {j : WipeJob} (h : s.Quieted)
include h

theorem State.course_finish_kept (hdepth : j.depth = .keys) (hkeep : j.keepOwner = true) :
    (s.engineAt j .countersWrite (.counters Counters.zero)).Course [.counters Counters.zero]
      ((s.withCounters Counters.zero).engineAt j .finishNone (.wipe j.doneRecord)) :=
  State.Course.step h (h.withContent (.counters Counters.zero)) (State.engineTold_finish_kept _ j hdepth hkeep h.awake) rfl

theorem State.course_finish_fresh (hdepth : j.depth = .keys) (hkeep : j.keepOwner = false) :
    (s.engineAt j .countersWrite (.counters Counters.zero)).Course
      [.counters Counters.zero, .credential 0 s.newBlankSlot]
      (((s.withCounters Counters.zero).drawn.withCredential 0 s.newBlankSlot).engineAt j .finishNone (.wipe j.doneRecord)) := by
  have hcounted := (h.withContent (.counters Counters.zero)).drawn
  refine State.Course.step h hcounted (State.engineTold_finish_fresh _ j hdepth hkeep h.awake) ?_
  exact State.Course.step hcounted (hcounted.withContent (.credential 0 s.newBlankSlot)) (State.engineTold_finishOwner _ j) rfl

theorem State.course_sanitize (hdepth : j.depth ≠ .keys) :
    (s.engineAt j .countersWrite (.counters Counters.zero)).Course [.counters Counters.zero]
      ((s.withCounters Counters.zero).engineAt j .sanitizeWrite (.wipe (j.sanitizeRecord 0))) :=
  State.Course.step h (h.withContent (.counters Counters.zero)) (State.engineTold_countersWrite _ j hdepth) rfl

/-- The sanitize starts as the write of its phase completes (R149, R154). -/
theorem exec_sanitizeStarts (hx : ∀ e ∈ s.excluded j, 4096 < e.start) (hroom : 4096 ≤ s.capacity) (hout : s.outstanding = [])
    (x : WipeRecord) : exec .storeWriteCompletion (s.engineAt j .sanitizeWrite (.wipe x)) =
      .next (((s.withContent (.wipe x)).engineIdle j .sanitizeWrite).stepsSent j 0 4) := by
  refine exec_engineWrite h.1 h.awake rfl ?_ h.1 (State.writerOn_idle rfl)
  rw [State.landed_engineAt]
  exact State.startSanitize_ahead (j := { j with stage := .sanitizeWrite }) h.awake hx hroom hout

end

/-- A course and the write that it leads to: every write stands in the writer in its turn. -/
theorem State.Course.writes {a s : State} {c d : Content} {j : WipeJob} {g : WipeStage} {ws vs : List Content}
    (h : a.Course (c :: ws) (s.engineAt j g d)) (hs : s.Quieted) (hvs : vs = ws ++ [d]) (k : Nat) (hk : k < vs.length) :
    ∃ m, Sys2Proof.Machine.runs a (List.replicate (k + 1) .storeWriteCompletion) = .next m ∧ m.access = .wiping ∧
      m.writer = ⟨some ⟨vs[k], [.engine]⟩, []⟩ := by
  subst hvs
  have hlast : (s.engineAt j g d).Course [d] ((s.engineAt j g d).event fun u =>
      match u.writer.current with | some w => u.writeCompletes w | none => u) :=
    ⟨⟨hs.2, rfl⟩, _, rfl, rfl⟩
  exact (h.append hlast).during (k + 1) (Nat.succ_lt_succ hk)

/-- A course and the completion of the write that it leads to. -/
theorem State.Course.ends {a b v : State} {c d : Content} {ws vs : List Content} (h : a.Course (c :: ws) b)
    (he : exec .storeWriteCompletion b = .next v) (hvs : vs = ws ++ [d]) :
    Sys2Proof.Machine.runs a (List.replicate (vs.length + 1) .storeWriteCompletion) = .next v := by
  have hlength : vs.length + 1 = (c :: ws).length + 1 := by
    rw [hvs, List.length_append]
    rfl
  rw [hlength, runs_replicate _ 1 h.runs, List.replicate_one, Sys2Proof.Machine.runs, he]
  rfl

theorem keptOwner_eq {c : Credential} {o : CredentialCopy} (h : o.record = some c) :
    keptOwner o = ⟨.owner, some .active, c.salt, c.verifier, []⟩ := by
  unfold keptOwner
  rw [h]
  rfl

/-! ### The two courses from the wipe record's write -/

/-- A wipe whose record is being written (R147). -/
def purgingJob (r : Reason) (d : Depth) (keep : Bool) : WipeJob := ⟨.purgeWrite, r, d, keep, 0, false⟩

section
variable {s : State} {r : Reason} {d : Depth} {keep : Bool} {l : Layout} {owner : Credential} (h : s.Quieted)
  (hengine : s.engine = ⟨some (purgingJob r d keep), none⟩)
  (hwriter : s.writer = ⟨some ⟨.wipe (purgingJob r d keep).purgeRecord, [.engine]⟩, []⟩)
  (hl : (purgingJob r d keep).layout s.copies.layout = l)
include h hengine hwriter hl

theorem State.course_wipe_kept (hkeep : keep = true) (howner : keptOwner s.copies.credentials[(0 : SlotIndex)] = owner) :
    s.Course (.wipe (purgingJob r d keep).purgeRecord :: .layout l :: .credential 0 owner :: emptiedWrites)
      ((s.rewrittenKept (purgingJob r d keep) l owner).engineAt (purgingJob r d keep) .countersWrite (.counters Counters.zero)) := by
  have hself : s.engineAt (purgingJob r d keep) .purgeWrite (.wipe (purgingJob r d keep).purgeRecord) = s :=
    State.engineAt_self (j := purgingJob r d keep) (by rw [hengine]) hwriter
  have hcourse := State.course_kept (j := purgingJob r d keep) h hkeep hl howner
  rw [hself] at hcourse
  exact hcourse

theorem State.course_wipe_fresh (hkeep : keep = false)
    (howner : owner = .blank (wrapKey s.store.identity.deviceKey 0 l[(0 : RangeIndex)].generation (Config.freshKey s.draws))) :
    s.Course (.wipe (purgingJob r d keep).purgeRecord :: .layout l :: .credential 0 owner :: .policy Policy.defaults ::
        emptiedWrites)
      ((s.rewrittenFresh (purgingJob r d keep) l owner).engineAt (purgingJob r d keep) .countersWrite
        (.counters Counters.zero)) := by
  have hself : s.engineAt (purgingJob r d keep) .purgeWrite (.wipe (purgingJob r d keep).purgeRecord) = s :=
    State.engineAt_self (j := purgingJob r d keep) (by rw [hengine]) hwriter
  have hcourse := State.course_fresh (j := purgingJob r d keep) h hkeep hl howner
  rw [hself] at hcourse
  exact hcourse

end

/-- Of a wipe that keeps the owner at depth MEDIA the excluded range is the IMAGE extent of its layout (R153). -/
theorem State.excluded_ahead {s : State} {j : WipeJob} {l : Layout} (hl : s.copies.layout = l)
    (h : j.keepOwner = true → j.depth = .media → ∀ (q : RangeIndex) x n, l[q].image = true → l[q].extent = some (x, n) → 4096 < x) :
    ∀ e ∈ s.excluded j, 4096 < e.start := by
  intro e he
  unfold State.excluded at he
  split at he
  · rename_i hboth
    rw [hl] at he
    obtain ⟨q, n, himage, hextent⟩ := Layout.imageExtent_some he
    exact h hboth.1 hboth.2 q e.start n himage hextent
  · cases he

/-! ### Where the courses end -/

section
variable {s : State} {j : WipeJob} (h : s.Quieted)
include h

/-- A wipe that keeps the owner ends in LOCKED (R150). -/
theorem State.finish_kept (hfault : j.fromSelfTestFault = false) (hkeep : j.keepOwner = true) :
    ∃ u, exec .storeWriteCompletion (s.engineAt j .finishNone (.wipe j.doneRecord)) = .next u ∧
      u.access = .locked ∧ u.view = some s.copies.layout.imageView ∧ u.pendingView = none ∧ u.engine = ⟨none, none⟩ ∧
      u.writer = ⟨none, []⟩ ∧ u.notices = { s.notices with wipeDone := true } ∧ u.slots = s.slots ∧ u.locks = s.locks ∧
      u.store = { s.store with wipe := .intact j.doneRecord } ∧ u.copies = { s.copies with wipe := j.doneRecord } :=
  ⟨_, exec_wipeEnds_kept (s := s.engineAt j .finishNone (.wipe j.doneRecord)) (j := { j with stage := .finishNone }) h rfl rfl rfl
    hfault hkeep, rfl, rfl, rfl, rfl, rfl, rfl, rfl, rfl, rfl, rfl⟩

/-- A wipe that does not keep the owner ends in BLANK, slot 0 loaded with the key that the device wrap holds (R150). -/
theorem State.finish_fresh (hfault : j.fromSelfTestFault = false) (hkeep : j.keepOwner = false) {g : Generation} {key : Key}
    (hrecord : s.copies.credentials[(0 : SlotIndex)].record = some (.blank (wrapKey s.store.identity.deviceKey 0 g key))) :
    ∃ u, exec .storeWriteCompletion (s.engineAt j .finishNone (.wipe j.doneRecord)) = .next u ∧
      u.access = .blank ∧ u.view = some (View.full s.capacity) ∧ u.engine = ⟨none, none⟩ ∧
      u.writer = ⟨none, []⟩ ∧ u.notices = { s.notices with wipeDone := true } ∧
      u.slots = s.slots.set 0 ⟨.loaded, some key, some s.copies.layout[(0 : RangeIndex)].generation, 0⟩ ∧
      u.locks = s.locks.set 0 ⟨false, false⟩ ∧
      u.store = { s.store with wipe := .intact j.doneRecord } ∧ u.copies = { s.copies with wipe := j.doneRecord } :=
  ⟨_, exec_wipeEnds_fresh (s := s.engineAt j .finishNone (.wipe j.doneRecord)) (j := { j with stage := .finishNone }) h rfl rfl rfl
    hfault hkeep hrecord rfl (unwrapKey_wrapKey _ _ _ _), rfl, rfl, rfl, rfl, rfl, rfl, rfl, rfl, rfl⟩

/-- A wipe goes on to a sanitize as the write of its phase completes (R149, R154). -/
theorem State.sanitize_starts (hroom : 4096 ≤ s.capacity) (hout : s.outstanding = [])
    (hahead : ∀ e ∈ s.excluded j, 4096 < e.start) (x : WipeRecord) :
    ∃ u, exec .storeWriteCompletion (s.engineAt j .sanitizeWrite (.wipe x)) = .next u ∧
      u.access = .wiping ∧ u.writer = ⟨none, []⟩ ∧ u.store = { s.store with wipe := .intact x } ∧
      u.copies = { s.copies with wipe := x } ∧ u.outstanding = [64, 65, 66, 67] ∧
      u.downstream = s.downstream ++ [.command .deallocate 64 0 1024, .command .deallocate 65 1024 1024,
        .command .deallocate 66 2048 1024, .command .deallocate 67 3072 1024] ∧
      u.engine = ⟨some { j with stage := .sanitizing }, some ⟨4096, [⟨0, 1024, 64, .issued, false⟩,
        ⟨1024, 1024, 65, .issued, false⟩, ⟨2048, 1024, 66, .issued, false⟩, ⟨3072, 1024, 67, .issued, false⟩], 0⟩⟩ :=
  ⟨_, exec_sanitizeStarts h hahead hroom hout x, h.2, rfl, rfl, rfl, rfl, rfl, rfl⟩

end

/-- The records of a wipe of depth KEYS that does not keep the owner, before its last write (R150). -/
def State.rewrittenBlank (s : State) (j : WipeJob) (l : Layout) (owner : Credential) : State :=
  ((s.rewrittenFresh j l owner).withCounters Counters.zero).drawn.withCredential 0 (s.rewrittenFresh j l owner).newBlankSlot

theorem State.rewrittenFresh_store (s : State) (j : WipeJob) (l : Layout) (owner : Credential) :
    (s.rewrittenFresh j l owner).store = { s.store with
      wipe := .intact j.purgeRecord, layout := .intact l, credentials := emptiedRecords s.store.credentials owner
      policy := .intact Policy.defaults } ∧
    (s.rewrittenFresh j l owner).copies = { s.copies with
      wipe := j.purgeRecord, layout := l, credentials := emptiedCopies s.copies.credentials owner, policy := Policy.defaults } :=
  ⟨rfl, rfl⟩

/-- The rewrites of records leave the ports and the identity as they are. -/
theorem State.rewrittenFresh_frame (s : State) (j : WipeJob) (l : Layout) (owner : Credential) :
    ((s.rewrittenFresh j l owner).withCounters Counters.zero).outstanding = s.outstanding ∧
    ((s.rewrittenFresh j l owner).withCounters Counters.zero).capacity = s.capacity := by
  unfold State.capacity State.withCounters State.rewrittenFresh State.withPolicy State.drawn State.rewrittenKept
  exact ⟨rfl, rfl⟩

/-- Slot 0 as the finish of such a wipe writes it (R150). -/
def State.finalBlank (s : State) (l : Layout) : Credential :=
  .blank (wrapKey s.store.identity.deviceKey 0 l[(0 : RangeIndex)].generation (Config.freshKey (s.draws + 1)))

theorem State.rewrittenFresh_blank (s : State) (j : WipeJob) (l : Layout) (owner : Credential) :
    (s.rewrittenFresh j l owner).newBlankSlot = s.finalBlank l := rfl

theorem State.rewrittenBlank_store (s : State) (j : WipeJob) (l : Layout) (owner : Credential) :
    (s.rewrittenBlank j l owner).store = { s.store with
      wipe := .intact j.purgeRecord, layout := .intact l, policy := .intact Policy.defaults, counters := .intact Counters.zero
      credentials := (emptiedRecords s.store.credentials owner).set (0 : SlotIndex) (.intact (s.finalBlank l)) } ∧
    (s.rewrittenBlank j l owner).copies = { s.copies with
      wipe := j.purgeRecord, layout := l, policy := Policy.defaults, counters := Counters.zero
      credentials := (emptiedCopies s.copies.credentials owner).set (0 : SlotIndex) ⟨some (s.finalBlank l), false⟩ } :=
  ⟨rfl, rfl⟩

/-- A wipe of depth KEYS that does not keep the owner, up to its last write (R148, R150). -/
theorem State.course_blank {s : State} {r : Reason} {l : Layout} {owner : Credential} (h : s.Quieted)
    (hengine : s.engine = ⟨some (purgingJob r .keys false), none⟩)
    (hwriter : s.writer = ⟨some ⟨.wipe (purgingJob r .keys false).purgeRecord, [.engine]⟩, []⟩)
    (hl : (purgingJob r .keys false).layout s.copies.layout = l)
    (howner : owner = .blank (wrapKey s.store.identity.deviceKey 0 l[(0 : RangeIndex)].generation (Config.freshKey s.draws))) :
    s.Course (.wipe (purgingJob r .keys false).purgeRecord :: .layout l :: .credential 0 owner :: .policy Policy.defaults ::
        emptiedWrites ++ [.counters Counters.zero, .credential 0 (s.finalBlank l)])
      ((s.rewrittenBlank (purgingJob r .keys false) l owner).engineAt (purgingJob r .keys false) .finishNone
        (.wipe (purgingJob r .keys false).doneRecord)) := by
  have hcourse := (State.course_wipe_fresh h hengine hwriter hl rfl howner).append
    (State.course_finish_fresh h.rewrittenFresh rfl rfl)
  rw [State.rewrittenFresh_blank] at hcourse
  exact hcourse

theorem State.Quieted.rewrittenBlank {s : State} (h : s.Quieted) (j : WipeJob) (l : Layout) (owner : Credential) :
    (s.rewrittenBlank j l owner).Quieted :=
  (h.rewrittenFresh (j := j) (l := l) (owner := owner)).counted.drawn.owned _

theorem State.rewrittenBlank_frame (s : State) (j : WipeJob) (l : Layout) (owner : Credential) :
    (s.rewrittenBlank j l owner).slots = s.slots ∧ (s.rewrittenBlank j l owner).locks = s.locks ∧
      (s.rewrittenBlank j l owner).notices = s.notices ∧ (s.rewrittenBlank j l owner).capacity = s.capacity := by
  unfold State.capacity State.rewrittenBlank State.withCredential State.drawn State.withCounters State.rewrittenFresh
    State.withPolicy State.drawn State.rewrittenKept
  exact ⟨rfl, rfl, rfl, rfl⟩

/-- A wipe of depth KEYS that does not keep the owner, to its end (R148, R150, R153). -/
theorem State.Quieted.ends_blank {s : State} {r : Reason} {l : Layout} {owner : Credential} (h : s.Quieted)
    (hengine : s.engine = ⟨some (purgingJob r .keys false), none⟩)
    (hwriter : s.writer = ⟨some ⟨.wipe (purgingJob r .keys false).purgeRecord, [.engine]⟩, []⟩)
    (hl : (purgingJob r .keys false).layout s.copies.layout = l)
    (howner : owner = .blank (wrapKey s.store.identity.deviceKey 0 l[(0 : RangeIndex)].generation (Config.freshKey s.draws))) :
    ∃ u, Sys2Proof.Machine.runs s (List.replicate 14 .storeWriteCompletion) = .next u ∧
      u.access = .blank ∧ u.view = some (View.full s.capacity) ∧ u.engine = ⟨none, none⟩ ∧ u.writer = ⟨none, []⟩ ∧
      u.notices = { s.notices with wipeDone := true } ∧
      u.slots = s.slots.set (0 : RangeIndex)
        ⟨.loaded, some (Config.freshKey (s.draws + 1)), some l[(0 : RangeIndex)].generation, 0⟩ ∧
      u.locks = s.locks.set (0 : RangeIndex) ⟨false, false⟩ ∧
      u.store = { s.store with
        wipe := .intact (purgingJob r .keys false).doneRecord, layout := .intact l, policy := .intact Policy.defaults
        counters := .intact Counters.zero
        credentials := (emptiedRecords s.store.credentials owner).set (0 : SlotIndex) (.intact (s.finalBlank l)) } ∧
      u.copies = { s.copies with
        wipe := (purgingJob r .keys false).doneRecord, layout := l, policy := Policy.defaults, counters := Counters.zero
        credentials := (emptiedCopies s.copies.credentials owner).set (0 : SlotIndex) ⟨some (s.finalBlank l), false⟩ } := by
  have hcourse := State.course_blank h hengine hwriter hl howner
  have hquieted := h.rewrittenBlank (purgingJob r .keys false) l owner
  obtain ⟨hstored, hcopied⟩ := s.rewrittenBlank_store (purgingJob r .keys false) l owner
  obtain ⟨hslots, hlocks, hnotices, hcapacity⟩ := s.rewrittenBlank_frame (purgingJob r .keys false) l owner
  generalize s.rewrittenBlank (purgingJob r .keys false) l owner = x at *
  have hslot : x.copies.credentials[(0 : SlotIndex)].record = some (.blank (wrapKey x.store.identity.deviceKey 0
      l[(0 : RangeIndex)].generation (Config.freshKey (s.draws + 1)))) := by
    rw [hcopied, hstored]
    exact congrArg CredentialCopy.record ((vector_get_set _ (0 : SlotIndex) 0 _).trans (if_pos rfl))
  obtain ⟨u, he, haccess, hview, hengine, hwriter, hended, hkeys, hlocked, hstore, hcopies⟩ :=
    State.finish_fresh (j := purgingJob r .keys false) hquieted rfl rfl hslot
  refine ⟨u, hcourse.ends (d := .wipe (purgingJob r .keys false).doneRecord) he rfl, haccess, hcapacity ▸ hview, hengine, hwriter,
    hnotices ▸ hended, ?_, hlocks ▸ hlocked, ?_, ?_⟩
  · rw [hkeys, hslots, hcopied]
    rfl
  · rw [hstore, hstored]
  · rw [hcopies, hcopied]

/-- The course of a wipe from its record's write on, and where it ends but for a BLANK one (R148 to R150). -/
def State.WipeCourse (s : State) (r : Reason) (d : Depth) (keep : Bool) (l : Layout) (owner : Credential) (ws : List Content) :
    Prop :=
  (∀ (k : Nat) (h : k < ws.length), ∃ b, Sys2Proof.Machine.runs s (List.replicate (k + 1) .storeWriteCompletion) = .next b ∧
    b.access = .wiping ∧ b.writer = ⟨some ⟨ws[k], [.engine]⟩, []⟩) ∧
  (d ≠ .keys → 4096 ≤ s.capacity → s.outstanding = [] →
    (keep = true → d = .media → ∀ (q : RangeIndex) x n, l[q].image = true → l[q].extent = some (x, n) → 4096 < x) →
    ∃ u, Sys2Proof.Machine.runs s (List.replicate (ws.length + 1) .storeWriteCompletion) = .next u ∧
      u.access = .wiping ∧ u.writer = ⟨none, []⟩ ∧ u.copies.layout = l ∧ u.store.layout = .intact l ∧
      u.copies.wipe = ⟨.sanitize, some r, some d, some keep, some 0, some 0⟩ ∧ u.store.wipe = .intact u.copies.wipe ∧
      u.store.credentials[(0 : SlotIndex)] = .intact owner ∧
      u.store.policy = (if keep then s.store.policy else .intact Policy.defaults) ∧ u.outstanding = [64, 65, 66, 67] ∧
      u.downstream = s.downstream ++ [.command .deallocate 64 0 1024, .command .deallocate 65 1024 1024,
        .command .deallocate 66 2048 1024, .command .deallocate 67 3072 1024] ∧
      u.engine = ⟨some ⟨.sanitizing, r, d, keep, 0, false⟩, some ⟨4096, [⟨0, 1024, 64, .issued, false⟩,
        ⟨1024, 1024, 65, .issued, false⟩, ⟨2048, 1024, 66, .issued, false⟩, ⟨3072, 1024, 67, .issued, false⟩], 0⟩⟩) ∧
  (d = .keys → keep = true → ∃ u, Sys2Proof.Machine.runs s (List.replicate (ws.length + 1) .storeWriteCompletion) = .next u ∧
    u.access = .locked ∧ u.view = some l.imageView ∧ u.pendingView = none ∧ u.engine = ⟨none, none⟩ ∧ u.writer = ⟨none, []⟩ ∧
    u.notices = { s.notices with wipeDone := true } ∧ u.copies.layout = l ∧ u.store.layout = .intact l ∧
    u.copies.credentials[(0 : SlotIndex)] = ⟨some owner, false⟩ ∧ u.store.credentials[(0 : SlotIndex)] = .intact owner ∧
    (∀ i : SlotIndex, i ≠ 0 → u.store.credentials[i] = .intact Credential.empty ∧
      u.copies.credentials[i] = ⟨some Credential.empty, false⟩) ∧
    u.store.policy = s.store.policy ∧ u.copies.policy = s.copies.policy ∧
    u.store.counters = .intact ⟨0, 0⟩ ∧ u.copies.counters = ⟨0, 0⟩ ∧
    u.store.wipe = .intact ⟨.none, some r, none, none, none, some 0⟩ ∧ u.slots = s.slots ∧ u.locks = s.locks)

section
variable {s : State} {r : Reason} {d : Depth} {l : Layout} {owner : Credential} {ws : List Content} (h : s.Quieted)
include h

theorem State.wipeCourse_kept (hengine : s.engine = ⟨some (purgingJob r d true), none⟩)
    (hwriter : s.writer = ⟨some ⟨.wipe (purgingJob r d true).purgeRecord, [.engine]⟩, []⟩)
    (hl : (purgingJob r d true).layout s.copies.layout = l)
    (howner : keptOwner s.copies.credentials[(0 : SlotIndex)] = owner)
    (hkeys : d = .keys → ws = (.layout l :: .credential 0 owner :: emptiedWrites ++ [.counters Counters.zero]) ++
      [.wipe (purgingJob r d true).doneRecord])
    (hmedia : d ≠ .keys → ws = (.layout l :: .credential 0 owner :: emptiedWrites ++ [.counters Counters.zero]) ++
      [.wipe ((purgingJob r d true).sanitizeRecord 0)]) :
    s.WipeCourse r d true l owner ws := by
  have hpre := State.course_wipe_kept h hengine hwriter hl rfl howner
  have hrewritten := h.rewrittenKept (j := purgingJob r d true) (l := l) (owner := owner)
  have hslot := (get_emptiedRecords s.store.credentials owner 0).trans (if_pos rfl)
  by_cases hd : d = .keys
  · have hcourse := hpre.append (State.course_finish_kept hrewritten hd rfl)
    have hws := hkeys hd
    refine ⟨hcourse.writes hrewritten.counted hws, fun hne => absurd hd hne, fun _ _ => ?_⟩
    obtain ⟨u, he, haccess, hview, hpending, hengine, hwriter, hnotices, hslots, hlocks, hstore, hcopies⟩ :=
      State.finish_kept (j := purgingJob r d true) hrewritten.counted rfl rfl
    refine ⟨u, hcourse.ends he hws, haccess, hview, hpending, hengine, hwriter, hnotices, ?_⟩
    rw [hstore, hcopies, hslots, hlocks]
    exact ⟨rfl, rfl, (get_emptiedCopies s.copies.credentials owner 0).trans (if_pos rfl), hslot,
      fun i hi => ⟨(get_emptiedRecords s.store.credentials owner i).trans (if_neg hi),
        (get_emptiedCopies s.copies.credentials owner i).trans (if_neg hi)⟩, rfl, rfl, rfl, rfl, rfl, rfl, rfl⟩
  · have hcourse := hpre.append (State.course_sanitize hrewritten hd)
    have hws := hmedia hd
    refine ⟨hcourse.writes hrewritten.counted hws, fun _ hroom hout hahead => ?_, fun hkeys => absurd hkeys hd⟩
    obtain ⟨u, he, haccess, hwriter, hstore, hcopies, hrest⟩ := State.sanitize_starts (j := purgingJob r d true)
      hrewritten.counted hroom hout (State.excluded_ahead (l := l) rfl hahead) ((purgingJob r d true).sanitizeRecord 0)
    refine ⟨u, hcourse.ends he hws, haccess, hwriter, ?_⟩
    rw [hstore, hcopies]
    exact ⟨rfl, rfl, rfl, rfl, hslot, rfl, hrest⟩

theorem State.wipeCourse_fresh (hengine : s.engine = ⟨some (purgingJob r d false), none⟩)
    (hwriter : s.writer = ⟨some ⟨.wipe (purgingJob r d false).purgeRecord, [.engine]⟩, []⟩)
    (hl : (purgingJob r d false).layout s.copies.layout = l)
    (howner : owner = .blank (wrapKey s.store.identity.deviceKey 0 l[(0 : RangeIndex)].generation (Config.freshKey s.draws)))
    (hkeys : d = .keys → ws = (.layout l :: .credential 0 owner :: .policy Policy.defaults :: emptiedWrites ++
      [.counters Counters.zero, .credential 0 (s.finalBlank l)]) ++ [.wipe (purgingJob r d false).doneRecord])
    (hmedia : d ≠ .keys → ws = (.layout l :: .credential 0 owner :: .policy Policy.defaults :: emptiedWrites ++
      [.counters Counters.zero]) ++ [.wipe ((purgingJob r d false).sanitizeRecord 0)]) :
    s.WipeCourse r d false l owner ws := by
  have hpre := State.course_wipe_fresh h hengine hwriter hl rfl howner
  have hrewritten := h.rewrittenFresh (j := purgingJob r d false) (l := l) (owner := owner)
  have hslot := (get_emptiedRecords s.store.credentials owner 0).trans (if_pos rfl)
  by_cases hd : d = .keys
  · subst hd
    have hcourse := State.course_blank h hengine hwriter hl howner
    have hws := hkeys rfl
    have hd : Depth.keys = .keys := rfl
    exact ⟨hcourse.writes (h.rewrittenBlank _ _ _) hws, fun hne => absurd hd hne, fun _ hk => absurd hk (by decide)⟩
  · have hcourse := hpre.append (State.course_sanitize hrewritten hd)
    have hws := hmedia hd
    refine ⟨hcourse.writes hrewritten.counted hws, fun _ hroom hout hahead => ?_, fun hkeys => absurd hkeys hd⟩
    obtain ⟨hsame, hcapacity⟩ := s.rewrittenFresh_frame (purgingJob r d false) l owner
    obtain ⟨u, he, haccess, hwriter, hstore, hcopies, hrest⟩ := State.sanitize_starts (j := purgingJob r d false)
      hrewritten.counted (hcapacity ▸ hroom) (hsame.trans hout) (State.excluded_ahead (l := l) rfl hahead) ((purgingJob r d false).sanitizeRecord 0)
    refine ⟨u, hcourse.ends he hws, haccess, hwriter, ?_⟩
    rw [hstore, hcopies]
    exact ⟨rfl, rfl, rfl, rfl, hslot, rfl, hrest⟩

end

end Sys2Proof.Machine

/-- Settles O39: a wipe is a chain of awaited writes, each step of which says what the engine writes next. -/
theorem wipeOfKeysEndsBlank : Obligations.WipeOfKeysEndsBlank := by
  unfold Obligations.WipeOfKeysEndsBlank
  refine ⟨?blank, ?course, ?finish⟩
  case blank =>
    intro s r hcalm hacc hnokeys hlocks hengine hwriter
    have hq : s.Quieted := ⟨hcalm, hacc⟩
    obtain ⟨l, hl⟩ : ∃ l, (purgingJob r .keys false).layout s.copies.layout = l := ⟨_, rfl⟩
    have hentries : ∀ q : RangeIndex, l[q] =
        if q = 0 then { RangeEntry.global with generation := s.copies.layout[q].generation + 1 }
        else { RangeEntry.undefined with generation := s.copies.layout[q].generation + 1 } := by
      intro q
      rw [← hl]
      unfold WipeJob.layout
      rw [vector_get_ofFn]
      rfl
    have hgeneration : l[(0 : RangeIndex)].generation = s.copies.layout[(0 : RangeIndex)].generation + 1 := by
      rw [hentries 0, if_pos rfl]
    obtain ⟨u, hruns, haccess, hview, hengine, hwriter, hnotices, hslots, hlocked, hstored, hcopied⟩ :=
      hq.ends_blank hengine hwriter hl rfl
    have hslot : u.copies.credentials[(0 : SlotIndex)] = ⟨some (s.finalBlank l), false⟩ := by
      rw [hcopied]
      exact (vector_get_set _ (0 : SlotIndex) 0 _).trans (if_pos rfl)
    refine ⟨u, hruns, haccess, ?_, hview, hengine, hwriter, hnotices, ?_⟩
    · rw [State.provisioning_eq, hslot]
      rfl
    rw [hslots, hlocked, hstored, hcopied, ← hgeneration]
    refine ⟨rfl, hentries, fun i hi => ⟨?_, ?_⟩, ?_, rfl, rfl, rfl, rfl, rfl, fun q => ?_, ?_, fun q => ?_⟩
    · show ((emptiedRecords _ _).set (0 : SlotIndex) _)[i] = _
      rw [vector_get_set, if_neg (Ne.symm hi), get_emptiedRecords, if_neg hi]
    · show ((emptiedCopies _ _).set (0 : SlotIndex) _)[i] = _
      rw [vector_get_set, if_neg (Ne.symm hi), get_emptiedCopies, if_neg hi]
    · show ((emptiedRecords _ _).set (0 : SlotIndex) _)[(0 : SlotIndex)] = _
      rw [vector_get_set, if_pos rfl]
      rfl
    · show (s.slots.set (0 : RangeIndex) _)[q].state = _
      rw [vector_get_set, apply_ite KeySlot.state, hnokeys q]
      exact if_congr eq_comm rfl rfl
    · show (s.slots.set (0 : RangeIndex) _)[(0 : RangeIndex)] = _
      rw [vector_get_set, if_pos rfl]
    · show (s.locks.set (0 : RangeIndex) _)[q] = _
      rw [vector_get_set, hlocks q]
      exact if_congr eq_comm rfl rfl
  case course =>
    intro s r d keep l owner g ws hcalm hacc hengine hwriter hl hg hkept hfresh hws
    have hq : s.Quieted := ⟨hcalm, hacc⟩
    have hlayout : (purgingJob r d keep).layout s.copies.layout = l := WipeJob.layout_eq hl
    have hgeneration : l[(0 : RangeIndex)].generation = g := by
      rw [hl 0, if_pos rfl, hg]
    cases keep with
    | true =>
      obtain ⟨c, hrecord, hkind, howner⟩ := hkept rfl
      exact State.wipeCourse_kept hq hengine hwriter hlayout ((keptOwner_eq hrecord).trans howner.symm)
        (fun hd => hws.trans (by rw [if_pos hd]; rfl)) (fun hd => hws.trans (by rw [if_neg hd]; rfl))
    | false =>
      rw [← hgeneration] at hws hfresh
      exact State.wipeCourse_fresh hq hengine hwriter hlayout (hfresh rfl)
        (fun hd => hws.trans (by rw [if_pos hd]; rfl)) (fun hd => hws.trans (by rw [if_neg hd]; rfl))
  case finish =>
    intro s u j x hcalm hacc hj hx
    have hq : s.Quieted := ⟨hcalm, hacc⟩
    refine ⟨fun hstage c hwriter => ?_, fun hstage hwriter hu => ⟨fun hfault => ?_, fun hfault hkeep => ?_,
      fun c w key hfault hkeep hrecord _ hwraps hkey => ?_⟩⟩
    · refine exec_engineWrite hcalm hq.awake hwriter ?_ hcalm (State.writerOn_busy rfl)
      have hjob : (s.landed (.credential 0 c)).engine.job = some j := hj
      unfold State.engineTold
      rw [hjob]
      dsimp only
      rw [hstage]
      dsimp only
      unfold State.writeDone
      rw [State.engineWrite_idle (by rfl), hx]
      rfl
    · rw [hu]
      exact exec_wipeEnds_fault hq hj hstage hwriter hfault
    · rw [hu]
      exact exec_wipeEnds_kept hq hj hstage hwriter hfault hkeep
    · rw [hu]
      exact exec_wipeEnds_fresh hq hj hstage hwriter hfault hkeep hrecord hwraps hkey
end

section
/-! Proofs/RangeRequests.lean: DEFINE RANGE, DELETE RANGE and ERASE RANGE past their gate (R18 to R21, R96, R162, R163): the record
writes of a range request from its layout on, then the three requests. -/

open Sys2Proof Sys2Proof.Machine

namespace Sys2Proof.Machine

/-! ## Courses of writes that a request awaits -/

/-- From `a` on, the request in service has the records of a list written in order; at the last one's completion the part is in
`b`. -/
def State.Rewrites (a : State) (ws : List Content) (b : State) : Prop :=
  a.WritesInOrder 0 ws ∧ runs a (List.replicate ws.length .storeWriteCompletion) = .next b

theorem State.Rewrites.cons {a m b : State} {c : Content} {ws : List Content} (hwriter : a.writer = ⟨some ⟨c, [.channel]⟩, []⟩)
    (hexec : exec .storeWriteCompletion a = .next m) (h : m.Rewrites ws b) : a.Rewrites (c :: ws) b := by
  refine ⟨State.writesInOrder_cons hwriter hexec h.1, ?_⟩
  rw [List.length_cons, List.replicate_succ, runs, hexec]
  exact h.2

theorem State.Rewrites.after {a m b : State} {n : Nat} {ws : List Content}
    (hruns : runs a (List.replicate n .storeWriteCompletion) = .next m) (h : m.Rewrites ws b) :
    a.WritesInOrder n ws ∧ runs a (List.replicate (n + ws.length) .storeWriteCompletion) = .next b :=
  ⟨State.writesInOrder_after hruns h.1, (runs_replicate _ _ hruns).trans h.2⟩

/-- The request in service awaits a record write in a stage, with nothing queued behind it (R89). -/
def State.writing (s : State) (v : Service) (g : Stage) (c : Content) : State :=
  { s with service := some { v with stage := g }, writer := ⟨some ⟨c, [.channel]⟩, []⟩ }

/-- The write that the request in service awaits has landed. -/
def State.written (s : State) (v : Service) (g : Stage) (c : Content) : State := (s.writing v g c).landWrite ⟨c, [.channel]⟩

section
variable {w : State} {v : Service} (h : w.InRequest v)
include h

theorem State.InRequest.awaitWrite (v' : Service) (g : Stage) (c : Content) : w.awaitWrite v' g c = w.writing v' g c := by
  refine if_pos ?_
  show w.writer.current = none ∧ w.writer.queue = []
  rw [h.writer]
  exact ⟨rfl, rfl⟩

theorem State.InRequest.settle_writing {g : Stage} (hg : g.holds = false) (c : Content) :
    (w.writing v g c).writerOn.settle = w.writing v g c :=
  State.settle_serving (s := w.writing v g c) (v := { v with stage := g }) rfl hg h.sessionEnd h.held h.lane h.dataLane

theorem State.InRequest.exec_writing {g : Stage} (hg : g.awaitsWrite = true) (c : Content) :
    exec .storeWriteCompletion (w.writing v g c) = .next ((w.written v g c).channelTold.writerOn.settle) := by
  refine exec_channelWrite (u := w.writing v g c) h.power ?_ rfl
  unfold State.owesAnswer State.serviceStage State.writing
  cases g <;> first | rfl | cases hg

end

/-! ## The record writes of a range request (R20, R21, R96, R163) -/

/-- The owner record of a range request has been written, where it is rewritten. -/
def State.withOwner (s : State) : Option Credential → State
  | some c => s.withCredential 0 c
  | none => s

/-- A range request goes on from its layout: to the owner record, where it is rewritten, else to the user records. -/
def State.ownerNext (s : State) (v : Service) (j : RangeJob) : Option Credential → State
  | some c => s.awaitWrite v (.rangeOwner j) (.credential 0 c)
  | none => s.rangeUsers v j

/-- Once its layout `l` is written, a range request begun on `w` for slot 0's secret goes on to the owner record given, if any, with
`d` free values taken by then. -/
def RangeJob.GoesOn (j : RangeJob) (w : State) (l : Layout) (secret : Secret) (owner : Option Credential) (d : Nat) : Prop :=
  ∀ (x : State) (v : Service), x.copies.layout = l → x.copies.credentials = w.copies.credentials → x.draws = w.draws →
    x.rangeOwner v secret j = ({ x with draws := d } : State).ownerNext v j owner

theorem RangeJob.GoesOn.congr {j : RangeJob} {s u : State} {l : Layout} {secret : Secret} {owner : Option Credential} {d : Nat}
    (h : j.GoesOn s l secret owner d) (hcredentials : u.copies.credentials = s.copies.credentials) (hdraws : u.draws = s.draws) :
    j.GoesOn u l secret owner d := fun x v hl hc hd => h x v hl (hc.trans hcredentials) (hd.trans hdraws)

theorem State.credential_congr {s u : State} {i : SlotIndex} (h : u.copies.credentials[i] = s.copies.credentials[i]) :
    u.credential i = s.credential i := by
  unfold State.credential
  rw [h]

section
variable {w : State} {l : Layout} {secret : Secret} {j : RangeJob} (hcorrupt : w.copies.credentials[(0 : SlotIndex)].corrupt = false)
include hcorrupt

/-- DEFINE RANGE of a keyed range and ERASE RANGE give the owner a wrap of a new key (R20, R163). -/
theorem RangeJob.goesOn_keyed (hchange : j.change = .defineKeyed ∨ j.change = .erase) {g : Generation} (hg : l[j.range].generation = g) :
    j.GoesOn w l secret (some { w.credential 0 with
      wraps := putWrap (wrapKey ((w.credential 0).wrappingKey secret) j.range g (Config.freshKey w.draws))
        (l.currentWraps (w.credential 0).wraps) }) (w.draws + 1) := by
  intro x v hl hc hd
  have hcredential : x.credential 0 = w.credential 0 := State.credential_congr (by rw [hc])
  have howner : x.ownerWithNewKey secret j.range = { w.credential 0 with
      wraps := putWrap (wrapKey ((w.credential 0).wrappingKey secret) j.range g (Config.freshKey w.draws))
        (l.currentWraps (w.credential 0).wraps) } := by
    unfold State.ownerWithNewKey State.newKey
    rw [hcredential, hl, hg, hd]
  unfold State.rangeOwner
  rw [hc, hcorrupt, if_neg (by decide), ← howner, ← hd]
  rcases hchange with h | h <;> rw [h] <;> rfl

/-- DEFINE RANGE of an IMAGE range withdraws the range's wrap from the owner (R20). -/
theorem RangeJob.goesOn_image (hchange : j.change = .defineImage) :
    j.GoesOn w l secret (some (l.withoutRange j.range (w.credential 0))) w.draws := by
  intro x v hl hc hd
  have hcredential : x.credential 0 = w.credential 0 := State.credential_congr (by rw [hc])
  unfold State.rangeOwner
  rw [hc, hcorrupt, if_neg (by decide), hchange, hl, hcredential, ← hd]
  rfl

/-- DELETE RANGE withdraws the range's wraps from an owner that holds one (R21). -/
theorem RangeJob.goesOn_delete (hchange : j.change = .delete) : j.GoesOn w l secret
    (if namesRange (w.credential 0).wraps j.range then some (l.withoutRange j.range (w.credential 0)) else none) w.draws := by
  intro x v hl hc hd
  have hcredential : x.credential 0 = w.credential 0 := State.credential_congr (by rw [hc])
  unfold State.rangeOwner
  rw [hc, hcorrupt, if_neg (by decide), hchange, hl, hcredential, ← hd]
  dsimp only
  split <;> rfl

end

/-- A range request has every user record that names its range still to rewrite when the owner's has been written. -/
theorem State.usersLeft_eq {w s : State} {j : RangeJob} (hnext : j.nextSlot = 1)
    (hc : ∀ i : SlotIndex, i ≠ 0 → w.copies.credentials[i] = s.copies.credentials[i]) :
    w.usersLeft j = s.usersNaming j.range := by
  refine List.filter_congr fun i _ => ?_
  unfold State.userNames
  by_cases hi : i = 0
  · subst hi
    simp
  · have hpos : j.nextSlot ≤ i.val := hnext ▸ Nat.one_le_iff_ne_zero.mpr fun h => hi (Fin.ext h)
    rw [hc i hi, decide_eq_true hpos, Bool.true_and]

/-- Rewriting credential records moves with a change of what no record holds. -/
theorem foldl_withCredential_comm (is : List SlotIndex) (g : SlotIndex → Credential) {f : State → State}
    (hf : ∀ w i c, (f w).withCredential i c = f (w.withCredential i c)) (w : State) :
    is.foldl (fun w i => w.withCredential i (g i)) (f w) = f (is.foldl (fun w i => w.withCredential i (g i)) w) := by
  induction is generalizing w with
  | nil => rfl
  | cons i is ih =>
    rw [List.foldl_cons, List.foldl_cons, hf]
    exact ih _

/-- The last part of a range request: the user records, then the answer. -/
theorem State.InRequest.rewrites_users {x s : State} {v : Service} (h : x.InRequest v) {j : RangeJob} (hnext : j.nextSlot = 1)
    (hc : ∀ i : SlotIndex, i ≠ 0 → x.copies.credentials[i] = s.copies.credentials[i]) :
    ((x.rangeUsers v j).writerOn.settle).Rewrites
      ((s.usersNaming j.range).map fun i => .credential i (x.copies.layout.withoutRange j.range (s.credential i)))
      { (x.usersRewritten s x.copies.layout j.range).answered v.tag .good v.code j.answer with service := none } := by
  obtain ⟨hwrites, b, hruns, hb⟩ := State.rangeUsers_writes (s.usersNaming j.range) x s v j h (by omega)
    (State.usersLeft_eq hnext hc) (fun i hi => hc i (by rintro rfl; simp at hi; omega))
  refine ⟨hwrites, ?_⟩
  rw [List.length_map, hruns, hb]
  rfl

/-- A range request from its written layout on: the owner record where it is rewritten, the user records, then the answer. -/
theorem State.InRequest.rewrites_owner {x s : State} {v : Service} (h : x.InRequest v) {j : RangeJob} (hnext : j.nextSlot = 1)
    (hc : x.copies.credentials = s.copies.credentials) (owner : Option Credential) :
    ((x.ownerNext v j owner).writerOn.settle).Rewrites
      (owner.toList.map (.credential 0) ++
        (s.usersNaming j.range).map fun i => .credential i (x.copies.layout.withoutRange j.range (s.credential i)))
      { ((x.withOwner owner).usersRewritten s x.copies.layout j.range).answered v.tag .good v.code j.answer with
        service := none } := by
  cases owner with
  | none => exact h.rewrites_users hnext fun i _ => by rw [hc]
  | some c =>
    let y : State := { x.withCredential 0 c with service := some { v with stage := .rangeOwner j } }
    have hy : y.InRequest { v with stage := .rangeOwner j } :=
      ⟨h.power, rfl, h.discard, h.struck, h.queue, h.lane, h.dataLane, h.sessionEnd, h.held, h.writer⟩
    have hyc : ∀ i : SlotIndex, i ≠ 0 → y.copies.credentials[i] = s.copies.credentials[i] := fun i hi => by
      show (x.copies.credentials.set (0 : SlotIndex) _)[i] = _
      rw [vector_get_set, if_neg fun h => hi h.symm, hc]
    have hwritten : x.written v (.rangeOwner j) (.credential 0 c) = y := by
      show ({ y with writer := ⟨none, []⟩ } : State) = y
      rw [← h.writer]
      rfl
    have htold : y.channelTold = y.rangeUsers { v with stage := .rangeOwner j } j := if_neg (by
      show ¬ v.struck = true
      rw [h.struck]
      decide)
    have hexec := h.exec_writing (g := .rangeOwner j) rfl (.credential 0 c)
    rw [hwritten, htold] at hexec
    have hstart : (x.ownerNext v j (some c)).writerOn.settle = x.writing v (.rangeOwner j) (.credential 0 c) := by
      show ((x.awaitWrite v (.rangeOwner j) (.credential 0 c)).writerOn).settle = _
      rw [h.awaitWrite, h.settle_writing (by rfl)]
    have husers : y.usersRewritten s x.copies.layout j.range =
        { (x.withCredential 0 c).usersRewritten s x.copies.layout j.range with service := some { v with stage := .rangeOwner j } } :=
      usersRewritten_service _ _ (x.withCredential 0 c) _
    rw [hstart]
    refine State.Rewrites.cons rfl hexec ?_
    have hrest := hy.rewrites_users (j := j) hnext hyc
    have hlayout : y.copies.layout = x.copies.layout := rfl
    rw [hlayout, husers] at hrest
    exact hrest

/-- The layout record of the request in service has been written; the view is as given. -/
def State.layoutTaken (s : State) (v : Service) (g : Stage) (l : Layout) (view : Option View) : State :=
  { s.withLayout l with service := some { v with stage := g }, view := view }

theorem State.InRequest.written_layout {w : State} {v : Service} (h : w.InRequest v) (g : Stage) (l : Layout) :
    ∃ view, w.written v g (.layout l) = w.layoutTaken v g l view ∧ (w.access ≠ .dormant → view = (w.withLayout l).view) := by
  have hwriter : ({ w with writer := ⟨none, []⟩ } : State) = w := by rw [← h.writer]
  by_cases hawake : w.access = .dormant
  · refine ⟨(w.written v g (.layout l)).view, ?_, fun hne => absurd hawake hne⟩
    generalize hview : (w.written v g (.layout l)).view = view
    have htaken : w.layoutTaken v g l view =
        { ({ w with writer := ⟨none, []⟩ } : State).withLayout l with service := some { v with stage := g }, view := view } := by
      rw [hwriter]
      rfl
    rw [htaken, ← hview]
    unfold State.written State.landWrite State.takeContent State.takeLayout
    dsimp only
    split <;> rfl
  · refine ⟨(w.withLayout l).view, ?_, fun _ => rfl⟩
    unfold State.written
    rw [State.landWrite_eq (s := w.writing v g (.layout l)) hawake (.inr (.inl ⟨l, rfl, rfl⟩))]
    show ({ ({ w with writer := ⟨none, []⟩ } : State).withLayout l with service := some { v with stage := g } } : State) = _
    rw [hwriter]
    rfl

/-- The record writes of a range request, from the write of its layout on: one at a time, and the answer at the last one's
completion. -/
theorem State.InRequest.rewrites_range {w : State} {v : Service} (h : w.InRequest v) {j : RangeJob} (hnext : j.nextSlot = 1)
    {secret : Secret} (hauth : v.auth = some (0, secret)) {l : Layout} {owner : Option Credential} {d : Nat}
    (hgoes : j.GoesOn w l secret owner d) :
    ∃ view, (w.access ≠ .dormant → view = (w.withLayout l).view) ∧
      (w.writing v (.rangeLayout j) (.layout l)).Rewrites (w.rangeWrites l j.range owner)
        { ((({ w.layoutTaken v (.rangeLayout j) l view with draws := d } : State).withOwner owner).usersRewritten w l
            j.range).answered v.tag .good v.code j.answer with service := none } := by
  obtain ⟨view, hwritten, hview⟩ := h.written_layout (.rangeLayout j) l
  refine ⟨view, hview, ?_⟩
  have hx : ({ w.layoutTaken v (.rangeLayout j) l view with draws := d } : State).InRequest { v with stage := .rangeLayout j } :=
    ⟨h.power, rfl, h.discard, h.struck, h.queue, h.lane, h.dataLane, h.sessionEnd, h.held, h.writer⟩
  have htold : (w.layoutTaken v (.rangeLayout j) l view).channelTold =
      (w.layoutTaken v (.rangeLayout j) l view).rangeOwner { v with stage := .rangeLayout j } secret j := by
    refine (if_neg (by
      show ¬ v.struck = true
      rw [h.struck]
      decide)).trans ?_
    dsimp only
    rw [hauth]
  have hexec := h.exec_writing (g := .rangeLayout j) rfl (.layout l)
  rw [hwritten, htold,
    hgoes (w.layoutTaken v (.rangeLayout j) l view) { v with stage := .rangeLayout j } rfl rfl rfl] at hexec
  exact State.Rewrites.cons rfl hexec (hx.rewrites_owner (s := w) hnext rfl owner)

/-! ## A range request past its gate -/

theorem State.usersNaming_congr {s u : State} (h : u.copies.credentials = s.copies.credentials) (r : RangeIndex) :
    u.usersNaming r = s.usersNaming r := by
  unfold State.usersNaming State.userNames
  rw [h]

theorem State.usersRewritten_congr {s u : State} (h : u.copies.credentials = s.copies.credentials) (w : State) (l : Layout)
    (r : RangeIndex) : w.usersRewritten u l r = w.usersRewritten s l r := by
  unfold State.usersRewritten State.credential
  rw [State.usersNaming_congr h, h]

theorem State.rangeWrites_congr {s u : State} (h : u.copies.credentials = s.copies.credentials) (l : Layout) (r : RangeIndex)
    (owner : Option Credential) : u.rangeWrites l r owner = s.rangeWrites l r owner := by
  unfold State.rangeWrites State.credential
  rw [State.usersNaming_congr h, h]

theorem State.length_rangeWrites (s : State) (l : Layout) (r : RangeIndex) (owner : Option Credential) :
    (s.rangeWrites l r owner).length = 1 + owner.toList.length + (s.usersNaming r).length := by
  simp only [State.rangeWrites, List.length_cons, List.length_append, List.length_map]
  omega

theorem State.Calm.passed_inRequest {u : State} (h : u.Calm) (t : Tag) (e : Envelope) :
    (u.passed t e).InRequest (Service.entered u t e .gateReset) :=
  ⟨h.power, rfl, rfl, rfl, h.queue, h.lane, h.dataLane, h.sessionEnd, h.held, rfl⟩

/-- The answer of a request past the gate in a calm part, as a state. -/
theorem State.passed_answered_eq {u : State} (h : u.Calm) (hidle : u.writer = ⟨none, []⟩) (t : Tag) (e : Envelope) (st : Status)
    (f : Response) :
    ({ (u.passed t e).answered t st e.request.code f with service := none } : State) =
      u.grantedAnswer t st e.request.code f := by
  have hentry : (u.table.set t Entry.ofControl).set t Entry.free = u.table.set t Entry.free := Vector.set_set ..
  simp only [State.passed, State.answered, State.grantedAnswer, State.granted, hentry]
  rw [← hidle, ← h.service]

/-- A range request past its gate in a calm part `u` outside DORMANT that awaits the write of its layout: the records are written
in order, and the answer is GOOD. -/
theorem State.runs_rangeJob {off s u : State} (hu : u.Calm) (hidle : u.writer = ⟨none, []⟩) (hawake : u.access ≠ .dormant)
    (hcredentials : u.copies.credentials = s.copies.credentials) {t : Tag} {e : Envelope} {secret : Secret}
    (hauth : e.auth = some (0, secret)) {j : RangeJob} {l : Layout} {owner : Option Credential} {d : Nat}
    (hruns : runs off [.storeWriteCompletion, .storeWriteCompletion] = .next (u.awaiting t e (.rangeLayout j) (.layout l)))
    (hnext : j.nextSlot = 1) (hgoes : j.GoesOn u l secret owner d) :
    off.WritesInOrder 2 (s.rangeWrites l j.range owner) ∧
      runs off (List.replicate (3 + owner.toList.length + (s.usersNaming j.range).length) .storeWriteCompletion) = .next
        { (((u.grantedAnswer t .good e.request.code j.answer).withLayout l).withOwner owner).usersRewritten s l j.range with
          draws := d } := by
  obtain ⟨view, hview, hrewrites⟩ := (hu.passed_inRequest t e).rewrites_range hnext hauth (l := l) (owner := owner) (d := d)
    (by exact hgoes)
  have hcopies : (u.passed t e).copies.credentials = s.copies.credentials := hcredentials
  rw [State.rangeWrites_congr hcopies, State.usersRewritten_congr hcopies] at hrewrites
  obtain ⟨hwrites, hends⟩ := State.Rewrites.after (n := 2) hruns hrewrites
  refine ⟨hwrites, ?_⟩
  have hcount : 3 + owner.toList.length + (s.usersNaming j.range).length = 2 + (s.rangeWrites l j.range owner).length := by
    rw [State.length_rangeWrites]
    omega
  rw [hcount, hends, ← State.passed_answered_eq hu hidle, hview hawake]
  have hfinish := foldl_withCredential_comm (s.usersNaming j.range) (fun i => l.withoutRange j.range (s.credential i))
    (f := fun w => { w.answered t .good e.request.code j.answer with service := none }) (fun _ _ _ => rfl)
  have hdraw := foldl_withCredential_comm (s.usersNaming j.range) (fun i => l.withoutRange j.range (s.credential i))
    (f := fun w => { w with draws := d }) (fun _ _ _ => rfl)
  refine congrArg Host.Outcome.next ((hfinish _).symm.trans (Eq.trans ?_ (hdraw _)))
  congr 1
  cases owner <;> rfl

section
variable {s : State} {tag : Byte} {t : Tag} {auth : AuthBlock} {i : SlotIndex} {r : Request}
  (hgate : runs (s.offer (.request tag auth r)) [.storeWriteCompletion, .storeWriteCompletion] =
    .next (s.pastGate t r i auth.secret)) (hkind : requestAllows r (s.credential i).kind = true)
include hgate hkind

/-- A request past its gate whose effect is to write a layout awaits that write. -/
theorem State.runs_layout (hcalm : s.Calm) {j : RangeJob} {e : RangeEntry} {l : Layout} (hl : s.copies.layout.set j.range e = l)
    (heffect : (s.passed t ⟨r, some (i, auth.secret)⟩).effect (Service.entered s t ⟨r, some (i, auth.secret)⟩ .gateReset) i
      auth.secret = (s.passed t ⟨r, some (i, auth.secret)⟩).writeLayout
        (Service.entered s t ⟨r, some (i, auth.secret)⟩ .gateReset) j e) :
    runs (s.offer (.request tag auth r)) [.storeWriteCompletion, .storeWriteCompletion] =
      .next (s.awaiting t ⟨r, some (i, auth.secret)⟩ (.rangeLayout j) (.layout l)) := by
  rw [hgate, State.pastGate_effect t auth.secret hkind, heffect, ← hl]
  exact congrArg Host.Outcome.next (State.passed_awaitWrite hcalm t _ rfl _)

end

/-! ## DEFINE RANGE (R18 to R20) -/

/-- The extent and the flags of DEFINE RANGE suit the range, among the other ranges that a layout defines (R18, R19). -/
def Layout.Fits (l : Layout) (r : RangeIndex) (flags lockOn : Byte) (x : Nat × Nat) : Prop :=
  (flags.getLsbD 1 = true → flags.getLsbD 0 = false ∧ flags.getLsbD 2 = false ∧ lockOn.getLsbD 0 = false ∧
    lockOn.getLsbD 1 = false ∧ x.2 ≤ 262144 ∧ ∀ q : RangeIndex, q ≠ r → l[q].defined = true → l[q].image = false) ∧
  2048 ≤ x.2 ∧ ∀ q : RangeIndex, q ≠ r → l[q].defined = true → ∀ y, l[q].extent = some y → x.1 + x.2 ≤ y.1 ∨ y.1 + y.2 ≤ x.1

theorem Layout.admits_iff (l : Layout) (r : RangeIndex) (image : Bool) (x : Nat × Nat) : l.admits r image x = true ↔
    2048 ≤ x.2 ∧
      (∀ q : RangeIndex, q ≠ r → l[q].defined = true → ∀ y, l[q].extent = some y → x.1 + x.2 ≤ y.1 ∨ y.1 + y.2 ≤ x.1) ∧
      (image = true → x.2 ≤ 262144 ∧ ∀ q : RangeIndex, q ≠ r → l[q].defined = true → l[q].image = false) := by
  have hmem : ∀ q : RangeIndex, q ∈ allRanges := by decide
  have hall : ∀ p : RangeIndex → Bool, allRanges.all p = true ↔ ∀ q, p q = true := fun p =>
    List.all_eq_true.trans ⟨fun h q => h q (hmem q), fun h q _ => h q⟩
  have hdisjoint : ∀ q : RangeIndex, (decide (q = r) || !l[q].defined || l[q].extent.all fun y => disjoint x y) = true ↔
      (q ≠ r → l[q].defined = true → ∀ y, l[q].extent = some y → x.1 + x.2 ≤ y.1 ∨ y.1 + y.2 ≤ x.1) := by
    intro q
    unfold disjoint
    cases l[q].extent <;> simp [or_iff_not_imp_left]
  have hsingle : ∀ q : RangeIndex, (decide (q = r) || !(l[q].defined && l[q].image)) = true ↔
      (q ≠ r → l[q].defined = true → l[q].image = false) := by
    intro q
    simp [-Fin.getElem_fin, or_iff_not_imp_left]
  unfold Layout.admits
  rw [Bool.and_eq_true, Bool.and_eq_true, decide_eq_true_eq, hall, and_assoc]
  refine and_congr Iff.rfl (and_congr (forall_congr' hdisjoint) ?_)
  cases image with
  | false => simp
  | true =>
    rw [Bool.not_true, Bool.false_or, Bool.and_eq_true, decide_eq_true_eq, hall]
    exact ⟨fun h _ => ⟨h.1, fun q => (hsingle q).mp (h.2 q)⟩, fun h => ⟨(h rfl).1, fun q => (hsingle q).mpr ((h rfl).2 q)⟩⟩

theorem Layout.fits_iff (l : Layout) (r : RangeIndex) (flags lockOn : Byte) (x : Nat × Nat) : l.Fits r flags lockOn x ↔
    ¬ (flags.getLsbD 1 = true ∧ (flags.getLsbD 0 = true ∨ flags.getLsbD 2 = true ∨ lockOn.getLsbD 0 = true ∨
      lockOn.getLsbD 1 = true)) ∧ l.admits r (flags.getLsbD 1) x = true := by
  rw [Layout.admits_iff]
  unfold Layout.Fits
  simp only [not_and, not_or, Bool.not_eq_true]
  tauto

section
variable {u : State} {v : Service} {index flags lockOn : Byte} {start length : Nat} {r : RangeIndex} {x : Nat × Nat}

theorem State.serveDefineRange_fits (hindex : index.toNat = r.val) (hr : r ≠ 0) (hx : takenExtent u.capacity start length = x)
    (hfits : u.copies.layout.Fits r flags lockOn x) : u.serveDefineRange v index flags lockOn start length =
      u.writeLayout v ⟨r, if flags.getLsbD 1 then .defineImage else .defineKeyed, .extent x.1 x.2, 1⟩
        ⟨true, some x, flags.getLsbD 0, flags.getLsbD 1, flags.getLsbD 2, ⟨lockOn.getLsbD 0, lockOn.getLsbD 1⟩,
          u.copies.layout[r].generation + 1⟩ := by
  obtain ⟨hflags, hadmits⟩ := (Layout.fits_iff ..).mp hfits
  unfold State.serveDefineRange
  rw [rangeOf_eq_some.mpr hindex]
  dsimp only
  rw [hx, if_neg (not_or.mpr ⟨hr, hflags⟩), if_pos hadmits]

theorem State.serveDefineRange_invalid (hx : takenExtent u.capacity start length = x)
    (h : index = 0 ∨ 16 ≤ index.toNat ∨ ∃ r : RangeIndex, index.toNat = r.val ∧ ¬ u.copies.layout.Fits r flags lockOn x) :
    u.serveDefineRange v index flags lockOn start length = u.answerPlain .invalid := by
  unfold State.serveDefineRange
  cases hr : rangeOf index with
  | none => rfl
  | some r =>
    have hindex := rangeOf_eq_some.mp hr
    dsimp only
    rw [hx]
    by_cases hzero : r = 0
    · exact if_pos (.inl hzero)
    by_cases hflags : flags.getLsbD 1 = true ∧ (flags.getLsbD 0 = true ∨ flags.getLsbD 2 = true ∨ lockOn.getLsbD 0 = true ∨
        lockOn.getLsbD 1 = true)
    · exact if_pos (.inr hflags)
    rw [if_neg (not_or.mpr ⟨hzero, hflags⟩)]
    rcases h with rfl | h | ⟨q, hq, hunfit⟩
    · exact absurd (Fin.ext hindex.symm) hzero
    · have := r.isLt
      omega
    · have hqr : q = r := Fin.ext (hq.symm.trans hindex)
      subst hqr
      exact if_neg fun hadmits => hunfit ((Layout.fits_iff ..).mpr ⟨hflags, hadmits⟩)

end

/-! ## DELETE RANGE (R21) -/

section
variable {u : State} {v : Service} {index : Byte} {r : RangeIndex}

theorem State.serveDeleteRange_defined (hindex : index.toNat = r.val) (hr : r ≠ 0) (hdefined : u.copies.layout[r].defined = true) :
    u.serveDeleteRange v index = u.writeLayout v ⟨r, .delete, .noFields, 1⟩
      { RangeEntry.undefined with generation := u.copies.layout[r].generation + 1 } := by
  unfold State.serveDeleteRange
  rw [rangeOf_eq_some.mpr hindex]
  exact if_neg (not_or.mpr ⟨hr, by rw [hdefined]; decide⟩)

theorem State.serveDeleteRange_invalid
    (h : index = 0 ∨ 16 ≤ index.toNat ∨ ∃ r : RangeIndex, index.toNat = r.val ∧ u.copies.layout[r].defined = false) :
    u.serveDeleteRange v index = u.answerPlain .invalid := by
  unfold State.serveDeleteRange
  cases hr : rangeOf index with
  | none => rfl
  | some r =>
    have hindex := rangeOf_eq_some.mp hr
    refine if_pos ?_
    rcases h with rfl | h | ⟨q, hq, hundefined⟩
    · exact .inl (Fin.ext hindex.symm)
    · have := r.isLt
      omega
    · have hqr : q = r := Fin.ext (hq.symm.trans hindex)
      exact .inr (hqr ▸ hundefined)

/-! ## ERASE RANGE (R162, R163) -/

theorem State.serveEraseRange_defined (hindex : index.toNat = r.val) (hdefined : u.copies.layout[r].defined = true)
    (himage : u.copies.layout[r].image = false) :
    u.serveEraseRange v index = ({ u with
      locks := u.locksBoth fun q => decide (q = r), slots := u.slotsBoth fun q => decide (q = r) } : State).stage v
        (.holdErase r) := by
  have hone : (fun q => decide (q ∈ [r])) = fun q : RangeIndex => decide (q = r) := by
    funext q
    simp
  have hlocked := u.bothLockAll_eq [r]
  rw [hone] at hlocked
  unfold State.serveEraseRange
  rw [rangeOf_eq_some.mpr hindex, ← hlocked]
  exact if_neg (by rw [hdefined, himage]; decide)

theorem State.serveEraseRange_invalid (h : 16 ≤ index.toNat ∨ ∃ r : RangeIndex, index.toNat = r.val ∧
    (u.copies.layout[r].defined = false ∨ u.copies.layout[r].image = true)) :
    u.serveEraseRange v index = u.answerPlain .invalid := by
  unfold State.serveEraseRange
  cases hr : rangeOf index with
  | none => rfl
  | some r =>
    have hindex := rangeOf_eq_some.mp hr
    refine if_pos ?_
    rcases h with h | ⟨q, hq, hunfit⟩
    · have := r.isLt
      omega
    · have hqr : q = r := Fin.ext (hq.symm.trans hindex)
      exact hqr ▸ hunfit

end

/-! ## Holds of the channel (R71, R75, R162) -/

section
variable {s : State} {v : Service} (hv : s.service = some v) (hend : s.sessionEnd = false) (hheld : s.heldPowerEnter = false)

theorem State.holdReady_erase {r : RangeIndex} (hv : s.service = some v) (hstage : v.stage = .holdErase r) :
    s.holdReady = decide (s.slots[r].state = .empty) := by
  unfold State.holdReady State.serviceStage
  rw [hv, Option.map_some, hstage]

include hend hheld

/-- A hold that has ended goes on at the same event. -/
theorem State.settle_holdEnded (hready : s.holdReady = true) {w : State} (hw : s.endHold = w) : s.settle = w.settle := by
  have hsession : s.sessionEndReady = false := by simp [State.sessionEndReady, hend]
  have hpower : s.powerEnterReady = false := by simp [State.powerEnterReady, hheld]
  refine State.settle_step ?_
  unfold State.settleStep State.channelReady State.proceed
  rw [hsession, hready, hpower, hw]
  rfl

include hv

/-- A hold that goes on has no follow-up. -/
theorem State.settle_holding (hready : s.holdReady = false) (hlane : s.lane = []) (hdata : s.dataLane = []) : s.settle = s := by
  refine State.settle_of_settled (State.settleStep_none ?_ (.inl (by rw [hv]; nofun)) hheld hlane hdata)
  unfold State.channelReady State.sessionEndReady
  rw [hend, hready]
  rfl

/-- An ERASE RANGE whose slot is EMPTY goes on to the write of its layout (R163). -/
theorem State.settle_holdErase (hidle : s.writer = ⟨none, []⟩) (hlane : s.lane = []) (hdata : s.dataLane = []) {r : RangeIndex}
    (hstage : v.stage = .holdErase r) (hempty : s.slots[r].state = .empty) {l : Layout} {g : Generation}
    (hg : s.copies.layout[r].generation + 1 = g) (hl : s.copies.layout.set r { s.copies.layout[r] with generation := g } = l) :
    s.settle = s.writing v (.rangeLayout ⟨r, .erase, .generation g, 1⟩) (.layout l) := by
  have hready : s.holdReady = true := (State.holdReady_erase hv hstage).trans (decide_eq_true hempty)
  have hends : s.endHold = s.writing v (.rangeLayout ⟨r, .erase, .generation g, 1⟩) (.layout l) := by
    unfold State.endHold
    rw [hv]
    dsimp only
    rw [hstage, ← hl, ← hg]
    refine if_pos ?_
    show s.writer.current = none ∧ s.writer.queue = []
    rw [hidle]
    exact ⟨rfl, rfl⟩
  exact (State.settle_holdEnded hend hheld hready hends).trans (State.settle_serving rfl rfl hend hheld hlane hdata)

end

theorem State.usersRewritten_draws (w s : State) (l : Layout) (r : RangeIndex) :
    ({ w.usersRewritten s l r with draws := w.draws } : State) = w.usersRewritten s l r :=
  (foldl_withCredential_comm _ _ (f := fun x => { x with draws := w.draws }) (fun _ _ _ => rfl) w).symm

end Sys2Proof.Machine

/-- Settles O45: the layout, the owner record and the user records are one course of awaited writes. -/
theorem defineRangeTakesTheExtent : Obligations.DefineRangeTakesTheExtent := by
  unfold Obligations.DefineRangeTakesTheExtent
  intro s tag t auth index flags lockOn start length image x fits hready ha howner himage hx hfits
  have hcalm := hready.1
  have hidle := hready.2.2.2.2.2.2.1
  have hcorrupt := hready.2.2.2.2.1
  subst himage
  have hgate := hready.runs_pastGate (r := .defineRange index flags lockOn start length) (served := [.locked]) rfl rfl (by simp [ha])
    (State.TakesBlock.of_inService (.inr (.inl ha)) _) (fun h => nomatch h.1) (fun _ h => nomatch h)
  have hkind : requestAllows (.defineRange index flags lockOn start length) (s.credential 0).kind = true := by
    rw [howner]
    rfl
  have hextent : takenExtent s.capacity start.toNat length.toNat = x := hx.symm
  have hexec : exec (.defineRange tag auth index flags lockOn start length) s =
      .next (s.offer (.request tag auth (.defineRange index flags lockOn start length))) :=
    exec_capsule rfl (State.owesAnswer_of_service hcalm.service)
  refine ⟨fun r l owner hr hindex hfit hl ho => ⟨_, hexec, ?_⟩, fun hbad => ⟨_, hexec, ?_⟩⟩
  · have hruns := State.runs_layout hgate hkind hcalm (j := ⟨r, if flags.getLsbD 1 then .defineImage else .defineKeyed,
      .extent x.1 x.2, 1⟩) hl.symm (State.serveDefineRange_fits (u := s.passed t _) hindex hr hextent ((hfits r).mp hfit))
    have hgeneration : l[r].generation = s.copies.layout[r].generation + 1 := by
      rw [hl, vector_get_set, if_pos rfl]
    cases himage : flags.getLsbD 1 with
    | true =>
      rw [himage] at hruns ho
      exact ho ▸ State.runs_rangeJob hcalm hidle (by rw [ha]; decide) rfl rfl hruns rfl (RangeJob.goesOn_image hcorrupt rfl)
    | false =>
      rw [himage] at hruns ho
      exact ho ▸ State.runs_rangeJob hcalm hidle (by rw [ha]; decide) rfl rfl hruns rfl
        (RangeJob.goesOn_keyed hcorrupt (.inl rfl) hgeneration)
  · refine State.runs_acting hgate hkind hcalm hidle (State.serveDefineRange_invalid (u := s.passed t _) hextent ?_)
    exact hbad.imp_right (Or.imp_right fun ⟨r, hr, hun⟩ => ⟨r, hr, fun h => hun ((hfits r).mpr h)⟩)
/-- Settles O46: a held ERASE RANGE goes on, at once or at a completion, to the course of writes that DELETE RANGE and DEFINE RANGE
take too. -/
theorem deleteAndEraseWithdrawTheKey : Obligations.DeleteAndEraseWithdrawTheKey := by
  unfold Obligations.DeleteAndEraseWithdrawTheKey
  refine ⟨fun s tag t auth index hready howner => ?_, ?held⟩
  · have hcalm := hready.1
    have hidle := hready.2.2.2.2.2.2.1
    have hcorrupt := hready.2.2.2.2.1
    have howes := State.owesAnswer_of_service hcalm.service
    have hdelete : s.access = .locked →
        runs (s.offer (.request tag auth (.deleteRange index))) [.storeWriteCompletion, .storeWriteCompletion] =
          .next (s.pastGate t (.deleteRange index) 0 auth.secret) := fun ha =>
      hready.runs_pastGate (served := [.locked]) rfl rfl (by simp [ha]) (State.TakesBlock.of_inService (.inr (.inl ha)) _)
        (fun h => nomatch h.1) (fun _ h => nomatch h)
    have herase : s.access = .locked ∨ s.access = .opened →
        runs (s.offer (.request tag auth (.eraseRange index))) [.storeWriteCompletion, .storeWriteCompletion] =
          .next (s.pastGate t (.eraseRange index) 0 auth.secret) := fun ha =>
      hready.runs_pastGate (served := [.locked, .opened]) rfl rfl (by simpa using ha)
        (State.TakesBlock.of_inService (.inr (ha.elim .inl fun h => .inr (.inr h))) _) (fun h => nomatch h.1) (fun _ h => nomatch h)
    have hkind : ∀ r : Request, kindsAllowed r = some [.owner] → requestAllows r (s.credential 0).kind = true := fun r hr =>
      (requestAllows_iff hr _).mpr (by simp [howner])
    have hlock : ∀ {r : RangeIndex} {u : State}, index.toNat = r.val → s.copies.layout[r].defined = true →
        s.copies.layout[r].image = false →
        u = { s with locks := s.locksBoth fun q => decide (q = r), slots := s.slotsBoth fun q => decide (q = r) } →
        (s.passed t ⟨.eraseRange index, some (0, auth.secret)⟩).effect
          (Service.entered s t ⟨.eraseRange index, some (0, auth.secret)⟩ .gateReset) 0 auth.secret =
          (u.passed t ⟨.eraseRange index, some (0, auth.secret)⟩).stage
            (Service.entered s t ⟨.eraseRange index, some (0, auth.secret)⟩ .gateReset) (.holdErase r) :=
      fun hindex hdefined himage hu => hu ▸ State.serveEraseRange_defined (u := s.passed t _) hindex hdefined himage
    refine ⟨fun r l owner hindex hdefined ha hr hl ho => ⟨_, exec_capsule rfl howes, ?delete⟩,
      fun r l owner u hindex hdefined ha himage hl ho hu => ?erase,
      fun ha hbad => ⟨_, exec_capsule rfl howes, ?badDelete⟩, fun ha hbad => ⟨_, exec_capsule rfl howes, ?badErase⟩⟩
    case delete =>
      have hruns := State.runs_layout (hdelete ha) (hkind _ rfl) hcalm (j := ⟨r, .delete, .noFields, 1⟩) hl.symm
        (State.serveDeleteRange_defined (u := s.passed t _) hindex hr hdefined)
      obtain ⟨hwrites, hends⟩ := State.runs_rangeJob hcalm hidle (by rw [ha]; decide) rfl rfl hruns rfl
        (RangeJob.goesOn_delete hcorrupt rfl)
      subst ho
      refine ⟨hwrites, ?_⟩
      by_cases hnames : namesRange (s.credential 0).wraps r = true
      · simp only [hnames, if_true] at hends ⊢
        exact hends.trans (congrArg Host.Outcome.next (State.usersRewritten_draws _ _ _ _))
      · rw [Bool.not_eq_true] at hnames
        simp only [hnames] at hends ⊢
        exact hends.trans (congrArg Host.Outcome.next (State.usersRewritten_draws _ _ _ _))
    case erase =>
      obtain ⟨hucalm, huidle, haccess⟩ : u.Calm ∧ u.writer = ⟨none, []⟩ ∧ u.access = s.access := by
        rw [hu]
        exact ⟨hcalm, hidle, rfl⟩
      refine ⟨fun hempty => ⟨_, exec_capsule rfl howes, ?atOnce⟩, fun hused => ⟨_, exec_capsule rfl howes, ?waits⟩⟩
      case atOnce =>
        have hawake : u.access ≠ .dormant := by
          rw [haccess]
          rcases ha with ha | ha <;> rw [ha] <;> decide
        have hruns := State.runs_keeping (herase ha) (hkind _ rfl) (u := u)
          (w := u.awaiting t ⟨.eraseRange index, some (0, auth.secret)⟩ (.rangeLayout ⟨r, .erase,
            .generation (s.copies.layout[r].generation + 1), 1⟩) (.layout l)) huidle (hlock hindex hdefined himage hu) (by
          rw [State.settle_holdErase (s := u.keeping t _) (l := l) rfl hucalm.sessionEnd hucalm.held huidle hucalm.lane hucalm.dataLane
            rfl hempty (by rw [hu]) (by
              rw [hl, hu]
              rfl)]
          rw [hu]
          rfl)
        have hgeneration : l[r].generation = s.copies.layout[r].generation + 1 := by
          rw [hl, vector_get_set, if_pos rfl]
        rw [ho]
        exact State.runs_rangeJob hucalm huidle hawake (by rw [hu]) rfl hruns rfl
          ((RangeJob.goesOn_keyed hcorrupt (.inr rfl) hgeneration).congr (by rw [hu]) (by rw [hu]))
      case waits =>
        refine State.runs_keeping (herase ha) (hkind _ rfl) (u := u) huidle (hlock hindex hdefined himage hu) ?_
        rw [State.settle_holding (s := u.keeping t _) rfl hucalm.sessionEnd hucalm.held
          ((State.holdReady_erase (s := u.keeping t _) rfl rfl).trans (decide_eq_false hused)) hucalm.lane hucalm.dataLane]
        rw [hu]
        rfl
    case badDelete =>
      exact State.runs_acting (hdelete ha) (hkind _ rfl) hcalm hidle (State.serveDeleteRange_invalid (u := s.passed t _) hbad)
    case badErase =>
      exact State.runs_acting (herase ha) (hkind _ rfl) hcalm hidle (State.serveEraseRange_invalid (u := s.passed t _) hbad)
  case held =>
    intro s v r subTag code x t g st l u a hbusy hstage hidle hends hu hl ha
    obtain ⟨hpower, hv, hdiscard, hstruck, hlane, hdata, hend, hheld⟩ := hbusy
    have hexec : exec (.downstreamCompletion subTag code x) s = .next u.settle := by
      rw [hu]
      refine exec_completion_ends hpower ?_ hends
      unfold State.owesAnswer State.serviceStage
      rw [hv, Option.map_some, hstage]
    have hframe : u.service = some v ∧ u.sessionEnd = false ∧ u.heldPowerEnter = false ∧ u.lane = [] ∧ u.dataLane = [] ∧
        u.writer = ⟨none, []⟩ ∧ u.power = .running ∧ u.queue = s.queue ∧ u.copies = s.copies ∧ u.draws = s.draws := by
      rw [hu]
      exact ⟨hv, hend, hheld, hlane, hdata, hidle, hpower, rfl, rfl, rfl⟩
    clear hu
    obtain ⟨huv, huend, huheld, hulane, hudata, huidle, hupower, huqueue, hucopies, hudraws⟩ := hframe
    refine ⟨fun hempty => ⟨?_, fun secret owner hauth hqueue hcorrupt howner => ?_⟩, fun hused => ?_⟩
    · rw [hexec, State.settle_holdErase (l := l) huv huend huheld huidle hulane hudata hstage hempty (by rw [hucopies])
        (by rw [hl, hucopies]), ha]
      rfl
    · have hin : u.InRequest v :=
        ⟨hupower, huv, hdiscard, hstruck, huqueue.trans hqueue, hulane, hudata, huend, huheld, huidle⟩
      have hgeneration : l[r].generation = s.copies.layout[r].generation + 1 := by
        rw [hl, vector_get_set, if_pos rfl]
      obtain ⟨_, _, hwrites, _⟩ := hin.rewrites_range (j := ⟨r, .erase, .generation (s.copies.layout[r].generation + 1), 1⟩) rfl hauth
        (RangeJob.goesOn_keyed (l := l) (by rw [hucopies]; exact hcorrupt) (.inr rfl) hgeneration)
      have hcredential : u.credential 0 = s.credential 0 := State.credential_congr (by rw [hucopies])
      rw [hcredential, hudraws, State.rangeWrites_congr (s := s) (by rw [hucopies]), ← howner] at hwrites
      rw [ha]
      exact hwrites
    · rw [hexec]
      exact congrArg Host.Outcome.next (State.settle_holding huv huend huheld
        ((State.holdReady_erase huv hstage).trans (decide_eq_false hused)) hulane hudata)
end

section
/-! Proofs/SessionHolds.lean: LOCK and END SESSION past their gate (R71, R72, R74, R75), and what a completion or a link reset makes of
a held request and of a pending session end (R69, R76, R123, R139, R163). -/

open Sys2Proof Sys2Proof.Machine

namespace Sys2Proof.Machine

/-! ## LOCK (R71) -/

/-- The test that a hold of LOCK waits for (R72). -/
theorem State.holdReady_lock {s : State} {v : Service} {rs : List RangeIndex} (hv : s.service = some v)
    (hstage : v.stage = .holdLock rs) : s.holdReady = true ↔ ∀ r ∈ rs, s.slots[r].state = .empty := by
  unfold State.holdReady State.serviceStage
  rw [hv, Option.map_some, hstage]
  simp only [List.all_eq_true, decide_eq_true_eq]

/-- A request in service has been answered and the others are as they were. -/
theorem State.keeping_answered {u : State} (hservice : u.service = none) (t : Tag) (v : Service) (st : Status) (code : Nat)
    (f : Response) :
    ({ (u.keeping t v).answered t st code f with service := none } : State) = u.grantedAnswer t st code f := by
  have hentry : (u.table.set t Entry.ofControl).set t Entry.free = u.table.set t Entry.free := Vector.set_set ..
  simp only [State.keeping, State.answered, State.grantedAnswer, State.granted, hentry]
  rw [← hservice]

section
variable {u : State} {v : Service} {i : SlotIndex} {bs : List Byte}

theorem State.serveLock_unrevealed (h : u.namesUnrevealed i bs = true) : u.serveLock v i bs = u.answerPlain .notPermitted :=
  if_pos h

variable (hlisted : u.namesUnrevealed i bs = false)
include hlisted

theorem State.serveLock_invalid (h : 16 < bs.length ∨ ∃ b ∈ bs, 16 ≤ b.toNat) : u.serveLock v i bs = u.answerPlain .invalid := by
  refine (if_neg (by rw [hlisted]; decide)).trans (if_pos (h.imp_right fun ⟨b, hb, hbig⟩ => ?_))
  exact List.any_eq_true.mpr ⟨b, hb, (rangeOf_isNone b).mpr hbig⟩

/-- LOCK of listed ranges both-locks the ranges it takes and is held (R71). -/
theorem State.serveLock_takes {reveals : RangeIndex → Bool} {taken : List RangeIndex}
    (hreveals : ∀ r, reveals r = (u.credential i).wraps.any fun w =>
      decide (w.range = r) && decide (w.generation = u.copies.layout[r].generation))
    (hkind : (u.credential i).kind = .owner ∨ (u.credential i).kind = .user) (hlength : bs.length ≤ 16)
    (hsmall : ∀ b ∈ bs, b.toNat < 16)
    (htaken : taken = allRanges.filter fun r => if bs.isEmpty then decide ((u.credential i).kind = .owner) || reveals r
      else bs.any fun b => decide (b.toNat = r.val)) :
    u.serveLock v i bs = ({ u with
      locks := u.locksBoth fun r => taken.contains r, slots := u.slotsBoth fun r => taken.contains r } : State).stage v
        (.holdLock taken) := by
  have htakes : u.lockTakes i bs = taken := by
    rw [htaken]
    unfold State.lockTakes
    by_cases hempty : bs = []
    · subst hempty
      rcases hkind with hk | hk
      · simp [hk]
      · simp only [hk, if_true, List.isEmpty_nil, Layout.holdsCurrent_eq, hreveals]
        rfl
    · have hnonempty : bs.isEmpty = false := by simpa using hempty
      simp only [hempty, if_false, hnonempty, contains_namedRanges]
      rfl
  have hlists : ¬ (16 < bs.length ∨ bs.any (fun b => (rangeOf b).isNone) = true) := by
    rintro (h | h)
    · omega
    · obtain ⟨b, hb, hnone⟩ := List.any_eq_true.mp h
      have := hsmall b hb
      have := (rangeOf_isNone b).mp hnone
      omega
  refine (if_neg (by rw [hlisted]; decide)).trans ((if_neg hlists).trans ?_)
  rw [htakes, State.bothLockAll_eq]
  simp only [List.contains_eq_mem]

end

/-- A LOCK whose slots are all EMPTY is answered GOOD (R72). -/
theorem State.endHold_lock {s : State} {v : Service} {rs : List RangeIndex} (hv : s.service = some v) (hstage : v.stage = .holdLock rs) :
    s.endHold = s.answerPlain .good := by
  unfold State.endHold
  rw [hv]
  dsimp only
  rw [hstage]

/-! ## Session ends (R74 to R76) -/

theorem State.enterLocked_eq (s : State) : ({ s with sessionEnd := false } : State).enterLocked = s.inLocked := by
  unfold State.enterLocked State.inLocked State.enter
  by_cases hd : s.access = .dormant
  · rw [if_pos hd, if_pos hd, if_pos (by exact hd), ← hd]
    rfl
  · rw [if_neg hd, if_neg hd, if_neg (by exact hd), decide_eq_true rfl, Bool.and_true]
    rfl

/-- A session end completes without a request in service. -/
theorem State.completeSessionEnd_alone {s : State} (hv : s.service = none) : s.completeSessionEnd = s.inLocked := by
  unfold State.completeSessionEnd
  dsimp only
  rw [State.enterLocked_eq]
  refine if_neg ?_
  show ¬ s.service.map Service.stage = _
  rw [hv]
  nofun

section
variable {s : State} {v : Service} (hv : s.service = some v) (hstage : v.stage = .holdEndSession)
include hv hstage

theorem State.completeSessionEnd_held : s.completeSessionEnd = s.inLocked.answerPlain .good := by
  unfold State.completeSessionEnd
  dsimp only
  rw [State.enterLocked_eq]
  refine if_pos ?_
  show s.service.map Service.stage = _
  rw [hv, Option.map_some, hstage]

/-- END SESSION is answered as its session end completes (R75). -/
theorem State.completeSessionEnd_answers (hdiscard : v.discard = false) : s.completeSessionEnd =
    ({ s.answered v.tag .good v.code .noFields with service := none } : State).inLocked := by
  rw [State.completeSessionEnd_held hv hstage]
  exact State.answer_eq (s := s.inLocked) hv hdiscard _ _

/-- The response of an END SESSION that a link reset has taken away is not handed out (R123). -/
theorem State.completeSessionEnd_discards (hdiscard : v.discard = true) :
    s.completeSessionEnd = ({ s with service := none } : State).inLocked := by
  rw [State.completeSessionEnd_held hv hstage]
  unfold State.answerPlain State.answer
  rw [show s.inLocked.service = some v from hv]
  exact if_pos hdiscard

theorem State.holdReady_endSession : s.holdReady = false := by
  unfold State.holdReady State.serviceStage
  rw [hv, Option.map_some, hstage]

end

section
variable {s : State}

/-- A pending session end whose slots are all EMPTY completes at the same event (R74). -/
theorem State.settle_sessionEnded (hend : s.sessionEnd = true) (hempty : ∀ r : RangeIndex, s.slots[r].state = .empty)
    (hheld : s.heldPowerEnter = false) {w : State} (hw : s.completeSessionEnd = w) : s.settle = w.settle := by
  have hready : s.sessionEndReady = true := by
    unfold State.sessionEndReady
    rw [hend, (State.allSlotsEmpty_iff s).mpr hempty]
    rfl
  have hpower : s.powerEnterReady = false := by simp [State.powerEnterReady, hheld]
  refine State.settle_step ?_
  unfold State.settleStep State.channelReady State.proceed
  rw [hready, hpower, hw]
  rfl

theorem State.sessionEndReady_used (hused : ∃ r : RangeIndex, s.slots[r].state ≠ .empty) : s.sessionEndReady = false := by
  obtain ⟨r, hr⟩ := hused
  unfold State.sessionEndReady
  rw [Bool.and_eq_false_iff]
  exact .inr (Bool.eq_false_iff.mpr fun h => hr ((State.allSlotsEmpty_iff s).mp h r))

theorem State.settle_sessionWaits (hused : ∃ r : RangeIndex, s.slots[r].state ≠ .empty) (hhold : s.holdReady = false)
    (hqueue : s.queue = [] ∨ s.service ≠ none) (hheld : s.heldPowerEnter = false) (hlane : s.lane = []) (hdata : s.dataLane = []) :
    s.settle = s := by
  refine State.settle_of_settled (State.settleStep_none ?_ hqueue.symm hheld hlane hdata)
  unfold State.channelReady
  rw [State.sessionEndReady_used hused, hhold]
  rfl

end

/-- The part as END SESSION leaves it before its hold ends (R74). -/
def State.ending (s : State) : State := { s.allLocked with pendingView := none, sessionEnd := true }

theorem State.ending_calm {s : State} (h : s.Calm) : ({ s.ending with sessionEnd := false } : State).Calm := by
  unfold State.ending State.allLocked
  exact ⟨h.power, h.service, h.queue, h.lane, h.dataLane, rfl, h.held⟩

theorem State.serveEndSession_passed (s : State) (t : Tag) (e : Envelope) (v : Service) :
    (s.passed t e).serveEndSession v = (s.ending.passed t e).stage v .holdEndSession := by
  unfold State.serveEndSession
  rw [State.markSessionEnd_eq]
  unfold State.ending State.allLocked State.passed State.locksBoth State.slotsBoth
  rfl

theorem State.ending_answered (s : State) (t : Tag) (st : Status) (code : Nat) (f : Response) :
    (s.ending.grantedAnswer t st code f).inLocked = (s.allLocked.grantedAnswer t st code f).inLocked := by
  unfold State.ending
  generalize s.allLocked = x
  rfl

theorem State.ending_keeping (s : State) (t : Tag) (auth : Option (SlotIndex × Secret)) :
    s.ending.keeping t (Service.entered s t ⟨.endSession, auth⟩ .holdEndSession) = { s.allLocked.granted t with
      table := s.table.set t Entry.ofControl, sessionEnd := true, pendingView := none
      service := some ⟨t, 34, .endSession, auth, s.access, .holdEndSession, false, false⟩ } := by
  have htable : s.table = s.allLocked.table := rfl
  unfold State.ending
  rw [htable]
  generalize s.allLocked = x
  rfl

theorem State.ending_slots (s : State) : s.ending.slots = s.allLocked.slots := by
  unfold State.ending
  rfl

theorem State.ending_frame (s : State) : s.ending.writer = s.writer ∧ s.ending.sessionEnd = true := by
  unfold State.ending State.allLocked
  exact ⟨rfl, rfl⟩

/-! ## A link reset under a hold (R69, R123, R178) -/

/-- A LINK RESET is taken at once while a request is held, outside DORMANT (R55). -/
theorem exec_linkReset_held {s : State} {v : Service} (hpower : s.power = .running) (hv : s.service = some v)
    (htesting : v.stage ≠ .testing) (hready : s.channelReady = false) (hlane : s.lane = []) (hdata : s.dataLane = [])
    (hheld : s.heldPowerEnter = false) (hawake : s.access ≠ .dormant) : exec .linkReset s = .next s.resetLink.settle := by
  have htaken : s.takeCapsule (.plain (Notice.code .linkReset) 0 []) = s.resetLink := by
    rw [s.takeCapsule_notice]
    exact if_neg hawake
  have htest : s.testRunning = false := by
    simp [State.testRunning, State.serviceStage, hv, hpower, htesting]
  show Host.Outcome.next (s.follow _) = _
  unfold State.follow
  rw [if_neg (by rw [hpower]; decide), State.settle_queueCapsule hready (.inl (by rw [hv]; nofun))
    (by simp [State.powerEnterReady, hheld]) (by simp [State.lanesTake, hpower, htest]) hlane hdata (s.blocked_notice .linkReset),
    htaken]

theorem State.linkResetSession_ends {s w : State} (hready : s.sessionEndReady = true) (hends : s.completeSessionEnd = w)
    (hlocked : w.access = .locked) : s.linkResetSession = w := by
  unfold State.linkResetSession
  rw [hready, if_pos rfl, hends]
  dsimp only
  rw [hlocked]

/-- A link reset with a session end pending whose slots it empties: the part is LOCKED, and no lock-on follows (R69, R75). -/
theorem State.resetLink_sessionEnd {s : State} {v : Service} (hv : s.service = some v) (hstage : v.stage = .holdEndSession)
    (hend : s.sessionEnd = true) (hawake : s.access ≠ .dormant) (hempty : ∀ r : RangeIndex, s.afterStrike.slots[r].state = .empty) :
    s.resetLink = ({ s.afterStrike with queue := [], service := none } : State).inLocked.answeredNotice .linkReset .good := by
  let y : State := { s.afterStrike with queue := [], service := some { v with discard := true }, latch := s.latch }
  have hstruck : s.orphanTable.flushChannel = y := by
    rw [State.orphanTable_eq]
    unfold State.flushChannel
    dsimp only
    rw [hv]
    rfl
  have hready : y.sessionEndReady = true := by
    unfold State.sessionEndReady
    rw [show y.allSlotsEmpty = true from (State.allSlotsEmpty_iff y).mpr hempty, Bool.and_true]
    exact hend
  have hends := State.completeSessionEnd_discards (s := y) rfl hstage rfl
  unfold State.resetLink
  rw [hstruck, State.linkResetSession_ends hready hends (if_neg hawake)]
  rfl

/-- A link reset has been acknowledged, and the response of the request in service taken away (R123). -/
def State.resetHolding (b : State) (v : Service) : State :=
  ({ b with service := some { v with discard := true } } : State).answeredNotice .linkReset .good

/-- The part that a link reset leaves outside a pending session end, by the access state it finds (R14, R69), before it is
acknowledged. -/
def State.ResetTo (s b : State) : Prop :=
  ((s.access = .blank ∨ s.access = .locked) ∧ b = { s.afterStrike with queue := [] }) ∨
    (s.access = .staged ∧ b = { ({ s.afterStrike with queue := [] } : State) with
      access := .opened, view := s.pendingView, pendingView := none }) ∨
    (s.access = .opened ∧ ∃ w, s.view = some w ∧ b = ({ s.afterStrike with queue := [] } : State).afterLockOn w LockOn.linkReset)

section
variable {s b : State} {v : Service} (h : s.ResetTo b) (hv : s.service = some v) (hend : s.sessionEnd = false)
include h

theorem State.ResetTo.awake : s.access ≠ .dormant := by
  rcases h with ⟨ha | ha, _⟩ | ⟨ha, _⟩ | ⟨ha, _⟩ <;> rw [ha] <;> decide

theorem State.ResetTo.awake_after : b.access ≠ .dormant := by
  have hawake := h.awake
  rcases h with ⟨_, rfl⟩ | ⟨_, rfl⟩ | ⟨_, w, _, rfl⟩
  · exact hawake
  · nofun
  · exact hawake

theorem State.ResetTo.frame : b.power = s.power ∧ b.queue = [] ∧ b.lane = s.lane ∧ b.dataLane = s.dataLane ∧
    b.sessionEnd = s.sessionEnd ∧ b.heldPowerEnter = s.heldPowerEnter ∧ b.writer = s.writer ∧ b.copies = s.copies ∧
    b.table = s.afterStrike.table := by
  rcases h with ⟨_, rfl⟩ | ⟨_, rfl⟩ | ⟨_, w, _, rfl⟩ <;> exact ⟨rfl, rfl, rfl, rfl, rfl, rfl, rfl, rfl, rfl⟩

/-- The lock-on leaves an EMPTY slot as it is (R66). -/
theorem State.ResetTo.empty {r : RangeIndex} (hempty : s.afterStrike.slots[r].state = .empty) : b.slots[r].state = .empty := by
  rcases h with ⟨_, rfl⟩ | ⟨_, rfl⟩ | ⟨_, w, _, rfl⟩
  · exact hempty
  · exact hempty
  · show (s.afterStrike.slotsBoth _)[r].state = _
    unfold State.slotsBoth
    rw [vector_get_ofFn]
    split
    · unfold KeySlot.bothLocked
      rw [hempty]
      exact hempty
    · exact hempty

include hv hend

theorem State.ResetTo.resetLink :
    s.resetLink = b.resetHolding v := by
  have hstruck : s.linkStruck = { s.afterStrike with queue := [], service := some { v with discard := true } } := by
    unfold State.linkStruck
    rw [hv]
    rfl
  rcases h with ⟨ha, rfl⟩ | ⟨ha, rfl⟩ | ⟨ha, w, hw, rfl⟩
  · rw [State.resetLink_plain hend (by tauto), hstruck]
    rfl
  · rw [State.resetLink_staged hend ha, hstruck]
    rfl
  · rw [State.resetLink_opened hend ha hw, hstruck]
    rfl

end

theorem Entry.afterLinkReset_not_forwarded (e : Entry) : e.afterLinkReset.state ≠ .forwarded := by
  unfold Entry.afterLinkReset
  cases hstate : e.state with
  | forwarded =>
    dsimp only
    split <;> nofun
  | aborting => nofun
  | control => nofun
  | orphaned | free =>
    dsimp only
    rw [hstate]
    nofun

theorem State.noneForwarded_afterStrike {s b : State} (htable : b.table = s.afterStrike.table) : b.noneForwarded = true := by
  rw [State.noneForwarded_iff, htable]
  intro t
  show (Vector.ofFn fun t : Tag => s.table[t].afterLinkReset)[t].state ≠ _
  rw [vector_get_ofFn]
  exact Entry.afterLinkReset_not_forwarded _

/-- The part after a link reset, whose request in service `v` has lost its response, rests at once or goes on to `w`. -/
theorem exec_linkReset_resting {s b w : State} {v : Service} (hreset : s.ResetTo b) (hpower : s.power = .running)
    (hv : s.service = some v) (hend : s.sessionEnd = false) (hlane : s.lane = []) (hdata : s.dataLane = [])
    (hheld : s.heldPowerEnter = false) (htesting : v.stage ≠ .testing) (hhold : s.holdReady = false)
    (hw : (b.resetHolding v).settle = w) :
    exec .linkReset s = .next w := by
  have hready : s.channelReady = false := by simp [State.channelReady, State.sessionEndReady, hend, hhold]
  rw [exec_linkReset_held hpower hv htesting hready hlane hdata hheld hreset.awake, hreset.resetLink hv hend, hw]

/-- The response of a request that a link reset has struck is not handed out (R123). -/
theorem State.answer_discarded {s : State} {v : Service} (hv : s.service = some v) (hdiscard : v.discard = true) (st : Status)
    (f : Response) : s.answer st f = { s with service := none } := by
  unfold State.answer
  rw [hv]
  exact if_pos hdiscard

/-! ## The holds of a request past its gate -/

section
variable {s u : State} {tag : Byte} {t : Tag} {auth : AuthBlock} {i : SlotIndex} {r : Request}
  (hgate : runs (s.offer (.request tag auth r)) [.storeWriteCompletion, .storeWriteCompletion] =
    .next (s.pastGate t r i auth.secret)) (hkind : requestAllows r (s.credential i).kind = true)
  (hidle : u.writer = ⟨none, []⟩)
include hgate hkind hidle

/-- A LOCK past its gate is answered GOOD where the slots it takes are EMPTY, and else held (R71, R72). -/
theorem State.runs_holdLock (hcalm : u.Calm) {taken : List RangeIndex}
    (heffect : (s.passed t ⟨r, some (i, auth.secret)⟩).effect (Service.entered s t ⟨r, some (i, auth.secret)⟩ .gateReset) i
      auth.secret = (u.passed t ⟨r, some (i, auth.secret)⟩).stage (Service.entered s t ⟨r, some (i, auth.secret)⟩ .gateReset)
        (.holdLock taken)) :
    ((∀ q ∈ taken, u.slots[q].state = .empty) →
      runs (s.offer (.request tag auth r)) [.storeWriteCompletion, .storeWriteCompletion] =
        .next (u.grantedAnswer t .good r.code .noFields)) ∧
    ((∃ q ∈ taken, u.slots[q].state ≠ .empty) →
      runs (s.offer (.request tag auth r)) [.storeWriteCompletion, .storeWriteCompletion] =
        .next (u.keeping t (Service.entered s t ⟨r, some (i, auth.secret)⟩ (.holdLock taken)))) := by
  have hready := State.holdReady_lock (s := u.keeping t (Service.entered s t ⟨r, some (i, auth.secret)⟩ (.holdLock taken))) rfl rfl
  refine ⟨fun hempty => State.runs_keeping hgate hkind hidle heffect ?_, fun hused => State.runs_keeping hgate hkind hidle heffect ?_⟩
  · rw [State.settle_holdEnded (s := u.keeping t _) hcalm.sessionEnd hcalm.held (hready.mpr hempty)
      ((State.endHold_lock rfl rfl).trans
        (State.answer_eq (v := Service.entered s t ⟨r, some (i, auth.secret)⟩ (.holdLock taken)) rfl rfl _ _))]
    exact (congrArg State.settle (State.keeping_answered hcalm.service t _ .good r.code .noFields)).trans (State.settle_calm hcalm)
  · refine State.settle_holding rfl hcalm.sessionEnd hcalm.held (Bool.eq_false_iff.mpr fun h => ?_) hcalm.lane hcalm.dataLane
    obtain ⟨q, hq, hne⟩ := hused
    exact hne (hready.mp h q hq)

/-- An END SESSION past its gate is answered GOOD where every slot is EMPTY, and else held (R74, R75). -/
theorem State.runs_holdEndSession (hcalm : ({ u with sessionEnd := false } : State).Calm) (hend : u.sessionEnd = true)
    (heffect : (s.passed t ⟨r, some (i, auth.secret)⟩).effect (Service.entered s t ⟨r, some (i, auth.secret)⟩ .gateReset) i
      auth.secret = (u.passed t ⟨r, some (i, auth.secret)⟩).stage (Service.entered s t ⟨r, some (i, auth.secret)⟩ .gateReset)
        .holdEndSession) :
    ((∀ q : RangeIndex, u.slots[q].state = .empty) →
      runs (s.offer (.request tag auth r)) [.storeWriteCompletion, .storeWriteCompletion] =
        .next (u.grantedAnswer t .good r.code .noFields).inLocked) ∧
    ((∃ q : RangeIndex, u.slots[q].state ≠ .empty) →
      runs (s.offer (.request tag auth r)) [.storeWriteCompletion, .storeWriteCompletion] =
        .next (u.keeping t (Service.entered s t ⟨r, some (i, auth.secret)⟩ .holdEndSession))) := by
  obtain ⟨hpower, hservice, hqueue, hlane, hdata, -, hheld⟩ := hcalm
  refine ⟨fun hempty => State.runs_keeping hgate hkind hidle heffect ?_, fun hused => State.runs_keeping hgate hkind hidle heffect ?_⟩
  · rw [State.settle_sessionEnded (s := u.keeping t _) hend hempty hheld (State.completeSessionEnd_answers rfl rfl rfl)]
    have hanswered := State.keeping_answered hservice t (Service.entered s t ⟨r, some (i, auth.secret)⟩ .holdEndSession) .good
      r.code .noFields
    refine (congrArg (fun x : State => x.inLocked.settle) hanswered).trans (State.settle_calm ?_)
    exact ⟨hpower, hservice, hqueue, hlane, hdata, rfl, hheld⟩
  · exact State.settle_sessionWaits (s := u.keeping t _) hused (State.holdReady_endSession rfl rfl) (.inl hqueue) hheld hlane hdata

end

end Sys2Proof.Machine

/-- Settles O43: a hold of the channel and a pending session end each end at the event that empties the last slot waited on. -/
theorem lockAndEndSessionDrain : Obligations.LockAndEndSessionDrain := by
  unfold Obligations.LockAndEndSessionDrain
  refine ⟨?requests, ?completions, ?resets⟩
  case requests =>
    intro s tag t auth i reveals hready ha hreveals
    have hcalm := hready.1
    have hidle := hready.2.2.2.2.2.2.1
    have howes := State.owesAnswer_of_service hcalm.service
    have hgate : ∀ r : Request, gatedIn r = some [.staged, .opened] → r.wellFormed = true → r ≠ .finalize →
        (∀ handover, r ≠ .unlock handover) →
        runs (s.offer (.request tag auth r)) [.storeWriteCompletion, .storeWriteCompletion] =
          .next (s.pastGate t r i auth.secret) := fun r hr hwf hfinal hunlock =>
      hready.runs_pastGate hr hwf (by simpa using ha.symm)
        (State.TakesBlock.of_inService (.inr (.inr (ha.symm))) _) (fun h => hfinal h.1) hunlock
    refine ⟨fun ranges hlength => ?lock, fun hkind => ?endSession⟩
    case lock =>
      have hruns := hgate (.lock ranges) rfl (decide_eq_true hlength) nofun nofun
      have hallows : (s.credential i).kind = .owner ∨ (s.credential i).kind = .user →
          requestAllows (.lock ranges) (s.credential i).kind = true := fun h => (requestAllows_iff rfl _).mpr (by simpa using h)
      refine ⟨fun huser hunrevealed => ⟨_, exec_capsule rfl howes, ?_⟩, fun hlisted => ?_⟩
      · exact State.runs_acting hruns (hallows (.inr huser)) hcalm hidle
          (State.serveLock_unrevealed (u := s.passed t _) ((State.namesUnrevealed_iff hreveals ranges).mpr ⟨huser, hunrevealed⟩))
      have hlisted' : s.namesUnrevealed i ranges = false := State.namesUnrevealed_of_listed hreveals hlisted
      have hkind := hlisted.imp_right And.left
      refine ⟨fun hbad => ⟨_, exec_capsule rfl howes, ?_⟩, fun taken u hcount hsmall htaken hu => ?_⟩
      · exact State.runs_acting hruns (hallows hkind) hcalm hidle (State.serveLock_invalid (u := s.passed t _) hlisted' hbad)
      have heffect : (s.passed t ⟨.lock ranges, some (i, auth.secret)⟩).effect
          (Service.entered s t ⟨.lock ranges, some (i, auth.secret)⟩ .gateReset) i auth.secret =
          (u.passed t ⟨.lock ranges, some (i, auth.secret)⟩).stage
            (Service.entered s t ⟨.lock ranges, some (i, auth.secret)⟩ .gateReset) (.holdLock taken) :=
        hu ▸ State.serveLock_takes (u := s.passed t _) hlisted' hreveals hkind hcount hsmall htaken
      obtain ⟨hucalm, huidle⟩ : u.Calm ∧ u.writer = ⟨none, []⟩ := by
        rw [hu]
        exact ⟨hcalm, hidle⟩
      obtain ⟨hanswered, hheld⟩ := State.runs_holdLock hruns (hallows hkind) huidle hucalm heffect
      refine ⟨fun hempty => ⟨_, exec_capsule rfl howes, hanswered hempty⟩, fun hused => ⟨_, exec_capsule rfl howes, ?_⟩⟩
      rw [hheld hused, hu]
      rfl
    case endSession =>
      have hruns := hgate .endSession rfl rfl nofun nofun
      have hallows : requestAllows .endSession (s.credential i).kind = true := (requestAllows_iff rfl _).mpr (by simpa using hkind)
      obtain ⟨hends, hheld⟩ := State.runs_holdEndSession (u := s.ending) hruns hallows (s.ending_frame.1.trans hidle)
        (State.ending_calm hcalm) s.ending_frame.2
        (State.serveEndSession_passed s t _ _)
      rw [State.ending_slots, State.ending_answered] at hends
      rw [State.ending_slots, State.ending_keeping] at hheld
      exact ⟨fun hempty => ⟨_, exec_capsule rfl howes, hends hempty⟩, fun hused => ⟨_, exec_capsule rfl howes, hheld hused⟩⟩
  case completions =>
    intro s subTag code x t g st u hends hu hqueue
    have hexec : s.power = .running → s.owesAnswer = false → exec (.downstreamCompletion subTag code x) s = .next u.settle :=
      fun hpower howes => hu ▸ exec_completion_ends hpower howes hends
    have hframe : u.power = s.power ∧ u.service = s.service ∧ u.queue = s.queue ∧ u.lane = s.lane ∧ u.dataLane = s.dataLane ∧
        u.sessionEnd = s.sessionEnd ∧ u.heldPowerEnter = s.heldPowerEnter := by
      rw [hu]
      exact ⟨rfl, rfl, rfl, rfl, rfl, rfl, rfl⟩
    clear hu
    obtain ⟨hupower, huservice, huqueue, hulane, hudata, huend, huheld⟩ := hframe
    refine ⟨fun v rs hbusy hstage => ?_, fun hend hcalm w hw => ?_⟩
    · obtain ⟨hpower, hv, hdiscard, hstruck, hlane, hdata, hend, hheld⟩ := hbusy
      have howes : s.owesAnswer = false := by
        unfold State.owesAnswer State.serviceStage
        rw [hv, Option.map_some, hstage]
      have huv := huservice.trans hv
      refine ⟨fun hempty => ?_, fun hused => ?_⟩
      · rw [hexec hpower howes, State.settle_holdEnded (huend.trans hend) (huheld.trans hheld)
          ((State.holdReady_lock huv hstage).mpr hempty)
          ((State.endHold_lock huv hstage).trans (State.answer_eq huv hdiscard _ _))]
        exact congrArg Host.Outcome.next (State.settle_calm ⟨hupower.trans hpower, rfl, huqueue.trans hqueue, hulane.trans hlane,
          hudata.trans hdata, huend.trans hend, huheld.trans hheld⟩)
      · rw [hexec hpower howes]
        refine congrArg Host.Outcome.next (State.settle_holding huv (huend.trans hend) (huheld.trans hheld)
          (Bool.eq_false_iff.mpr fun h => ?_) (hulane.trans hlane) (hudata.trans hdata))
        obtain ⟨r, hr, hne⟩ := hused
        exact hne ((State.holdReady_lock huv hstage).mp h r hr)
    · have hpower : s.power = .running := hcalm.power
      have hlane : s.lane = [] := hcalm.lane
      have hdata : s.dataLane = [] := hcalm.dataLane
      have hheld : s.heldPowerEnter = false := hcalm.held
      have hfacts : s.owesAnswer = false ∧ u.holdReady = false ∧ u.completeSessionEnd = w.inLocked ∧
          (w.power = u.power ∧ w.service = none ∧ w.queue = u.queue ∧ w.lane = u.lane ∧ w.dataLane = u.dataLane ∧
            w.heldPowerEnter = u.heldPowerEnter) := by
        rcases hw with ⟨hv, rfl⟩ | ⟨v, hv, hstage, hdiscard, rfl⟩
        · have huv := huservice.trans hv
          refine ⟨State.owesAnswer_of_service hv, ?_, State.completeSessionEnd_alone huv, rfl, huv, rfl, rfl, rfl, rfl⟩
          simp [State.holdReady, State.serviceStage, huv]
        · have huv := huservice.trans hv
          refine ⟨?_, State.holdReady_endSession huv hstage, State.completeSessionEnd_answers huv hstage hdiscard,
            rfl, rfl, rfl, rfl, rfl, rfl⟩
          unfold State.owesAnswer State.serviceStage
          rw [hv, Option.map_some, hstage]
      obtain ⟨howes, hhold, hcompletes, hwpower, hwservice, hwqueue, hwlane, hwdata, hwheld⟩ := hfacts
      refine ⟨fun hempty => ?_, fun hused => ?_⟩
      · rw [hexec hpower howes, State.settle_sessionEnded (huend.trans hend) hempty (huheld.trans hheld) hcompletes]
        exact congrArg Host.Outcome.next (State.settle_calm ⟨hwpower.trans (hupower.trans hpower), hwservice,
          hwqueue.trans (huqueue.trans hqueue), hwlane.trans (hulane.trans hlane), hwdata.trans (hudata.trans hdata), rfl,
          hwheld.trans (huheld.trans hheld)⟩)
      · rw [hexec hpower howes]
        exact congrArg Host.Outcome.next (State.settle_sessionWaits hused hhold (.inl (huqueue.trans hqueue))
          (huheld.trans hheld) (hulane.trans hlane) (hudata.trans hdata))
  case resets =>
    intro s u v hpower hv hstruck hlane hdata hheld hu
    refine ⟨fun hstage hend ha hused hempty => ?_, fun hend b hb => ?_⟩
    · have hawake : s.access ≠ .dormant := by rcases ha with ha | ha <;> rw [ha] <;> decide
      have hready : s.channelReady = false := by
        unfold State.channelReady
        rw [State.sessionEndReady_used hused, State.holdReady_endSession hv hstage]
        rfl
      subst hu
      rw [exec_linkReset_held hpower hv (by rw [hstage]; nofun) hready hlane hdata hheld hawake,
        State.resetLink_sessionEnd hv hstage hend hawake hempty]
      exact congrArg Host.Outcome.next (State.settle_calm ⟨hpower, rfl, rfl, hlane, hdata, rfl, hheld⟩)
    · have hreset : s.ResetTo b := by
        subst hu
        exact hb
      obtain ⟨hbpower, hbqueue, hblane, hbdata, hbend, hbheld, hbwriter, hbcopies, hbtable⟩ := hreset.frame
      have hexec := fun {w : State} => exec_linkReset_resting (w := w) hreset hpower hv hend hlane hdata hheld
      have hbrunning := hbpower.trans hpower
      have hbempty := hblane.trans hlane
      have hbdrained := hbdata.trans hdata
      have hbsession := hbend.trans hend
      have hbawake := hbheld.trans hheld
      have hslot : ∀ r : RangeIndex, u.slots[r].state = .empty → b.slots[r].state = .empty := fun r h => by
        subst hu
        exact hreset.empty h
      refine ⟨fun rs hstage hused hempty => ?_, fun r g hstage hused hempty hidle hg => ?_, fun hstage hbusy => ?_⟩
      · have hhold : s.holdReady = false := Bool.eq_false_iff.mpr fun h => by
          obtain ⟨r, hr, hne⟩ := hused
          exact hne ((State.holdReady_lock hv hstage).mp h r hr)
        refine hexec (by rw [hstage]; nofun) hhold ?_
        have hready : (b.resetHolding v).holdReady = true :=
          (State.holdReady_lock (v := { v with discard := true }) rfl hstage).mpr fun r hr => hslot r (hempty r hr)
        rw [State.settle_holdEnded (s := b.resetHolding v) hbsession hbawake hready
          ((State.endHold_lock (v := { v with discard := true }) rfl hstage).trans
            (State.answer_discarded (v := { v with discard := true }) rfl rfl _ _))]
        exact State.settle_calm ⟨hbrunning, rfl, hbqueue, hbempty, hbdrained, hbsession, hbawake⟩
      · have hhold : s.holdReady = false := (State.holdReady_erase hv hstage).trans (decide_eq_false hused)
        refine hexec (by rw [hstage]; nofun) hhold ?_
        refine State.settle_holdErase (s := b.resetHolding v) (v := { v with discard := true }) rfl hbsession hbawake (hbwriter.trans hidle) hbempty hbdrained
          hstage (hslot r hempty) ?_ ?_
        · show b.copies.layout[r].generation + 1 = g
          rw [hbcopies, hg]
        · show b.copies.layout.set r { b.copies.layout[r] with generation := g } = _
          rw [hbcopies]
      · have hhold : s.holdReady = false := by
          unfold State.holdReady State.serviceStage
          rw [hv, Option.map_some, hstage]
          simp [hbusy, hreset.awake]
        refine hexec (by rw [hstage]; nofun) hhold ?_
        refine (State.settle_holdTest (s := b.resetHolding v) (v := { v with discard := true }) rfl hstage hreset.awake_after hbsession hbawake hbempty
          hbdrained).trans (if_pos (State.noneForwarded_afterStrike hbtable))
end
